-- ==== Sys2Proof/Word.lean ====
section
/-!
DEFINITION. The word types of the Chip16 CORE block (spec/00_scope.md R10, R12, R13): bytes, 16-bit words, and the
4-bit fields of an instruction. Every value is an unsigned bit pattern; signedness is a reading of it.
-/
namespace Sys2Proof

/-- One memory cell (R10, R50). -/
abbrev Byte := BitVec 8

/-- A 16-bit pattern: a general register, `pc`, `sp`, an address, a memory word (R10, R13). -/
abbrev Word := BitVec 16

/-- A 4-bit instruction field (R72): `x`, `y` or `n`. -/
abbrev Nibble := BitVec 4

/-- A register selector: a 4-bit field naming one of R0..R15 (R21, R76). -/
abbrev Reg := Nibble

end Sys2Proof
end

