-- ==== Sys2Proof/Config.lean ====
section
/-!
DEFINITION. What the spec leaves to the environment (spec/10_state.md R41, spec/00_scope.md R11): the answers of the
peripherals and the draw of RND. Each is an OPAQUE function of a plain counter (State.draws): nothing in Lean can say what
it answers, so a statement about a step holds for every sequence of answers (D20, D21). Log entry 3.
The other open parameters, `unset_reg`, `unset_mem` and `rom_image`, are arguments of the driver's reset (Machine/Driver.lean).
-/
namespace Sys2Proof

/-- The answer to the `is_vblank()` command at draw `k` (R41, R103). DESIGN CHOICE (log 3): a free value. Safe. -/
opaque Config.vblankAnswer : Nat → Bool

/-- The collision answer of a `draw_sprite_*` command at draw `k` (R41, R106, R107). DESIGN CHOICE (log 3): a free value.
Safe. -/
opaque Config.collisionAnswer : Nat → Bool

/-- The raw random word at draw `k` (R41, R108); RND brings it into `[0, HHLL]`. DESIGN CHOICE (log 3, log 4): a free value.
Safe. -/
opaque Config.rndAnswer : Nat → Word

end Sys2Proof
end

