-- ==== Sys2Proof/Syntax.lean ====
section
/-!
DEFINITION. The instruction set as syntax (spec/30_encoding.md R70..R82): the four bytes of an instruction, the fields the
decoder extracts, the formats, and one constructor of Instr for each of the 73 rows of spec/opcode_table.json.
-/
namespace Sys2Proof

/-- The four bytes of one instruction in fetch order (R57, R70): `b0` is the opcode. -/
structure InstrBytes where
  b0 : Byte
  b1 : Byte
  b2 : Byte
  b3 : Byte
  deriving DecidableEq, Repr

/-- The decoded fields of four bytes (R72); derived anew by every step and never part of the state (R33). -/
structure DecodedFields where
  opcode : Byte
  y      : Nibble
  x      : Nibble
  ad     : Byte
  ll     : Byte
  n      : Nibble
  hh     : Byte
  hflip  : BitVec 7
  vflip  : BitVec 1
  hhll   : Word
  vtsr   : Word
  deriving DecidableEq, Repr

/-- The eleven instruction formats (R74). -/
inductive Format where
  | O    -- no operand
  | N    -- n
  | I    -- HHLL
  | XI   -- x, HHLL
  | XYI  -- x, y, HHLL
  | XY   -- x, y
  | XYZ  -- x, y, z (= n)
  | XN   -- x, n
  | X    -- x
  | FL   -- hflip, vflip
  | SG   -- AD, VTSR
  deriving DecidableEq, Repr

/-- One constructor for each row of spec/opcode_table.json, in the table's order (R81). Operands are the fields the row's
rule reads, with the widths of R72; a field the rule ignores is no operand (R77). -/
inductive Instr where
  | nop                                          -- 0x00 NOP, R101
  | cls                                          -- 0x01 CLS, R102
  | vblnk                                        -- 0x02 VBLNK, R103
  | bgc (n : Nibble)                             -- 0x03 BGC N, R104
  | spr (w h : Byte)                             -- 0x04 SPR HHLL (w = ll, h = hh), R105
  | drwImm (x y : Reg) (hhll : Word)             -- 0x05 DRW RX,RY,HHLL, R106
  | drwReg (x y z : Reg)                         -- 0x06 DRW RX,RY,RZ, R107
  | rnd (x : Reg) (hhll : Word)                  -- 0x07 RND RX,HHLL, R108
  | flip (hflip : BitVec 7) (vflip : BitVec 1)   -- 0x08 FLIP h,v, R109
  | snd0                                         -- 0x09 SND0, R110
  | snd1 (hhll : Word)                           -- 0x0A SND1 HHLL, R111
  | snd2 (hhll : Word)                           -- 0x0B SND2 HHLL, R112
  | snd3 (hhll : Word)                           -- 0x0C SND3 HHLL, R113
  | snp (x : Reg) (hhll : Word)                  -- 0x0D SNP RX,HHLL, R114
  | sng (ad : Byte) (vtsr : Word)                -- 0x0E SNG AD,VTSR, R115
  | jmp (hhll : Word)                            -- 0x10 JMP HHLL, R141
  | jx (x : Nibble) (hhll : Word)                -- 0x12 Jx HHLL (x is a number), R142
  | jme (x y : Reg) (hhll : Word)                -- 0x13 JME RX,RY,HHLL, R143
  | call (hhll : Word)                           -- 0x14 CALL HHLL, R144
  | ret                                          -- 0x15 RET, R145
  | jmpReg (x : Reg)                             -- 0x16 JMP RX, R146
  | cx (x : Nibble) (hhll : Word)                -- 0x17 Cx HHLL (x is a number), R147
  | callReg (x : Reg)                            -- 0x18 CALL RX, R148
  | ldi (x : Reg) (hhll : Word)                  -- 0x20 LDI RX,HHLL, R171
  | ldiSp (hhll : Word)                          -- 0x21 LDI SP,HHLL, R172
  | ldm (x : Reg) (hhll : Word)                  -- 0x22 LDM RX,HHLL, R173
  | ldmReg (x y : Reg)                           -- 0x23 LDM RX,RY, R174
  | mov (x y : Reg)                              -- 0x24 MOV RX,RY, R175
  | stm (x : Reg) (hhll : Word)                  -- 0x30 STM RX,HHLL, R176
  | stmReg (x y : Reg)                           -- 0x31 STM RX,RY, R177
  | addi (x : Reg) (hhll : Word)                 -- 0x40 ADDI RX,HHLL, R196
  | add2 (x y : Reg)                             -- 0x41 ADD RX,RY, R197
  | add3 (x y z : Reg)                           -- 0x42 ADD RX,RY,RZ, R198
  | subi (x : Reg) (hhll : Word)                 -- 0x50 SUBI RX,HHLL, R200
  | sub2 (x y : Reg)                             -- 0x51 SUB RX,RY, R201
  | sub3 (x y z : Reg)                           -- 0x52 SUB RX,RY,RZ, R202
  | cmpi (x : Reg) (hhll : Word)                 -- 0x53 CMPI RX,HHLL, R203
  | cmp (x y : Reg)                              -- 0x54 CMP RX,RY, R204
  | andi (x : Reg) (hhll : Word)                 -- 0x60 ANDI RX,HHLL, R241
  | and2 (x y : Reg)                             -- 0x61 AND RX,RY, R242
  | and3 (x y z : Reg)                           -- 0x62 AND RX,RY,RZ, R243
  | tsti (x : Reg) (hhll : Word)                 -- 0x63 TSTI RX,HHLL, R244
  | tst (x y : Reg)                              -- 0x64 TST RX,RY, R245
  | ori (x : Reg) (hhll : Word)                  -- 0x70 ORI RX,HHLL, R246
  | or2 (x y : Reg)                              -- 0x71 OR RX,RY, R247
  | or3 (x y z : Reg)                            -- 0x72 OR RX,RY,RZ, R248
  | xori (x : Reg) (hhll : Word)                 -- 0x80 XORI RX,HHLL, R249
  | xor2 (x y : Reg)                             -- 0x81 XOR RX,RY, R250
  | xor3 (x y z : Reg)                           -- 0x82 XOR RX,RY,RZ, R251
  | muli (x : Reg) (hhll : Word)                 -- 0x90 MULI RX,HHLL, R210
  | mul2 (x y : Reg)                             -- 0x91 MUL RX,RY, R211
  | mul3 (x y z : Reg)                           -- 0x92 MUL RX,RY,RZ, R212
  | divi (x : Reg) (hhll : Word)                 -- 0xA0 DIVI RX,HHLL, R221
  | div2 (x y : Reg)                             -- 0xA1 DIV RX,RY, R222
  | div3 (x y z : Reg)                           -- 0xA2 DIV RX,RY,RZ, R223
  | modi (x : Reg) (hhll : Word)                 -- 0xA3 MODI RX,HHLL, R225
  | mod2 (x y : Reg)                             -- 0xA4 MOD RX,RY, R226
  | mod3 (x y z : Reg)                           -- 0xA5 MOD RX,RY,RZ, R227
  | remi (x : Reg) (hhll : Word)                 -- 0xA6 REMI RX,HHLL, R228
  | rem2 (x y : Reg)                             -- 0xA7 REM RX,RY, R229
  | rem3 (x y z : Reg)                           -- 0xA8 REM RX,RY,RZ, R230
  | shlN (x : Reg) (n : Nibble)                  -- 0xB0 SHL RX,N, R255
  | shrN (x : Reg) (n : Nibble)                  -- 0xB1 SHR RX,N, R256
  | sarN (x : Reg) (n : Nibble)                  -- 0xB2 SAR RX,N, R257
  | shlReg (x y : Reg)                           -- 0xB3 SHL RX,RY, R258
  | shrReg (x y : Reg)                           -- 0xB4 SHR RX,RY, R259
  | sarReg (x y : Reg)                           -- 0xB5 SAR RX,RY, R260
  | push (x : Reg)                               -- 0xC0 PUSH RX, R271
  | pop (x : Reg)                                -- 0xC1 POP RX, R272
  | pushall                                      -- 0xC2 PUSHALL, R273
  | popall                                       -- 0xC3 POPALL, R274
  | pushf                                        -- 0xC4 PUSHF, R275
  | popf                                         -- 0xC5 POPF, R276
  deriving DecidableEq, Repr

/-- Why four bytes are no instruction, by name (R83): the opcode byte has no entry in the opcode table. -/
inductive DecodeError where
  | unmappedOpcode (opcode : Byte)
  deriving DecidableEq, Repr

/-- What the decoder answers: the instruction, or the reason by name. -/
inductive Decoded where
  | instr    (i : Instr)
  | rejected (e : DecodeError)
  deriving DecidableEq, Repr

end Sys2Proof
end

