-- ==== Sys2Proof/Decode.lean ====
section
/-!
DEFINITION. The decoder (spec/30_encoding.md R70..R85): field extraction, the 256-entry opcode table, the unmapped space,
and the encoder written from the formats of R74. `decode` is total and rejects an unmapped opcode by name.
The opcode bytes are the spec's R81; R81 marks all but 0x30 and 0x42 as the published numbering (UNVERIFIED by its source, log entry 9).
-/
namespace Sys2Proof

/-! ## Bit fields and byte order -/

/-- The low byte of a word (R55, R56). -/
def loByte (w : Word) : Byte := w.extractLsb' 0 8

/-- The high byte of a word (R55, R56). -/
def hiByte (w : Word) : Byte := w.extractLsb' 8 8

/-- A word from its low and its high byte, `(hi << 8) | lo` (R54, R75). -/
def wordOf (lo hi : Byte) : Word := hi ++ lo

/-- The low nibble of a byte, `b & 0xF` (R72). -/
def loNibble (b : Byte) : Nibble := b.extractLsb' 0 4

/-- The high nibble of a byte, `b >> 4` (R72). -/
def hiNibble (b : Byte) : Nibble := b.extractLsb' 4 4

/-- A byte from its high and its low nibble. -/
def byteOf (hi lo : Nibble) : Byte := hi ++ lo

/-- R72: the fields of four bytes. Total; the four bytes are its only input (R73). -/
def decodeFields (b : InstrBytes) : DecodedFields where
  opcode := b.b0
  y      := hiNibble b.b1
  x      := loNibble b.b1
  ad     := b.b1
  ll     := b.b2
  n      := loNibble b.b2
  hh     := b.b3
  hflip  := b.b3.extractLsb' 1 7
  vflip  := b.b3.extractLsb' 0 1
  hhll   := wordOf b.b2 b.b3
  vtsr   := wordOf b.b2 b.b3

/-! ## The opcode table -/

/-- A mapped entry of the opcode table (R80): the opcode byte, and which instruction the fields then give. -/
abbrev OpcodeRow := Byte × (DecodedFields → Instr)

/-- Opcodes 0x00..0x0F of the opcode map (R81). -/
def systemRows : List OpcodeRow :=
  [ (0x00#8, fun _ => .nop)
  , (0x01#8, fun _ => .cls)
  , (0x02#8, fun _ => .vblnk)
  , (0x03#8, fun f => .bgc f.n)
  , (0x04#8, fun f => .spr f.ll f.hh)
  , (0x05#8, fun f => .drwImm f.x f.y f.hhll)
  , (0x06#8, fun f => .drwReg f.x f.y f.n)
  , (0x07#8, fun f => .rnd f.x f.hhll)
  , (0x08#8, fun f => .flip f.hflip f.vflip)
  , (0x09#8, fun _ => .snd0)
  , (0x0A#8, fun f => .snd1 f.hhll)
  , (0x0B#8, fun f => .snd2 f.hhll)
  , (0x0C#8, fun f => .snd3 f.hhll)
  , (0x0D#8, fun f => .snp f.x f.hhll)
  , (0x0E#8, fun f => .sng f.ad f.vtsr) ]

/-- Opcodes 0x10..0x1F of the opcode map (R81). -/
def controlRows : List OpcodeRow :=
  [ (0x10#8, fun f => .jmp f.hhll)
  , (0x12#8, fun f => .jx f.x f.hhll)
  , (0x13#8, fun f => .jme f.x f.y f.hhll)
  , (0x14#8, fun f => .call f.hhll)
  , (0x15#8, fun _ => .ret)
  , (0x16#8, fun f => .jmpReg f.x)
  , (0x17#8, fun f => .cx f.x f.hhll)
  , (0x18#8, fun f => .callReg f.x) ]

/-- Opcodes 0x20..0x3F of the opcode map (R81). -/
def loadStoreRows : List OpcodeRow :=
  [ (0x20#8, fun f => .ldi f.x f.hhll)
  , (0x21#8, fun f => .ldiSp f.hhll)
  , (0x22#8, fun f => .ldm f.x f.hhll)
  , (0x23#8, fun f => .ldmReg f.x f.y)
  , (0x24#8, fun f => .mov f.x f.y)
  , (0x30#8, fun f => .stm f.x f.hhll)
  , (0x31#8, fun f => .stmReg f.x f.y) ]

/-- Opcodes 0x40..0x5F of the opcode map (R81). -/
def addSubRows : List OpcodeRow :=
  [ (0x40#8, fun f => .addi f.x f.hhll)
  , (0x41#8, fun f => .add2 f.x f.y)
  , (0x42#8, fun f => .add3 f.x f.y f.n)
  , (0x50#8, fun f => .subi f.x f.hhll)
  , (0x51#8, fun f => .sub2 f.x f.y)
  , (0x52#8, fun f => .sub3 f.x f.y f.n)
  , (0x53#8, fun f => .cmpi f.x f.hhll)
  , (0x54#8, fun f => .cmp f.x f.y) ]

/-- Opcodes 0x60..0x8F of the opcode map (R81). -/
def logicRows : List OpcodeRow :=
  [ (0x60#8, fun f => .andi f.x f.hhll)
  , (0x61#8, fun f => .and2 f.x f.y)
  , (0x62#8, fun f => .and3 f.x f.y f.n)
  , (0x63#8, fun f => .tsti f.x f.hhll)
  , (0x64#8, fun f => .tst f.x f.y)
  , (0x70#8, fun f => .ori f.x f.hhll)
  , (0x71#8, fun f => .or2 f.x f.y)
  , (0x72#8, fun f => .or3 f.x f.y f.n)
  , (0x80#8, fun f => .xori f.x f.hhll)
  , (0x81#8, fun f => .xor2 f.x f.y)
  , (0x82#8, fun f => .xor3 f.x f.y f.n) ]

/-- Opcodes 0x90..0xAF of the opcode map (R81). -/
def mulDivRows : List OpcodeRow :=
  [ (0x90#8, fun f => .muli f.x f.hhll)
  , (0x91#8, fun f => .mul2 f.x f.y)
  , (0x92#8, fun f => .mul3 f.x f.y f.n)
  , (0xA0#8, fun f => .divi f.x f.hhll)
  , (0xA1#8, fun f => .div2 f.x f.y)
  , (0xA2#8, fun f => .div3 f.x f.y f.n)
  , (0xA3#8, fun f => .modi f.x f.hhll)
  , (0xA4#8, fun f => .mod2 f.x f.y)
  , (0xA5#8, fun f => .mod3 f.x f.y f.n)
  , (0xA6#8, fun f => .remi f.x f.hhll)
  , (0xA7#8, fun f => .rem2 f.x f.y)
  , (0xA8#8, fun f => .rem3 f.x f.y f.n) ]

/-- Opcodes 0xB0..0xBF of the opcode map (R81). -/
def shiftRows : List OpcodeRow :=
  [ (0xB0#8, fun f => .shlN f.x f.n)
  , (0xB1#8, fun f => .shrN f.x f.n)
  , (0xB2#8, fun f => .sarN f.x f.n)
  , (0xB3#8, fun f => .shlReg f.x f.y)
  , (0xB4#8, fun f => .shrReg f.x f.y)
  , (0xB5#8, fun f => .sarReg f.x f.y) ]

/-- Opcodes 0xC0..0xCF of the opcode map (R81). -/
def stackRows : List OpcodeRow :=
  [ (0xC0#8, fun f => .push f.x)
  , (0xC1#8, fun f => .pop f.x)
  , (0xC2#8, fun _ => .pushall)
  , (0xC3#8, fun _ => .popall)
  , (0xC4#8, fun _ => .pushf)
  , (0xC5#8, fun _ => .popf) ]

/-- The opcode map (R81): its 73 mapped opcodes; every other byte is unmapped (R83). -/
def opcodeTable : List OpcodeRow :=
  systemRows ++ controlRows ++ loadStoreRows ++ addSubRows ++ logicRows ++ mulDivRows ++ shiftRows ++ stackRows

/-- R80: the table's entry for an opcode byte, absent where the opcode is unmapped. -/
def opcodeEntry (op : Byte) : Option (DecodedFields → Instr) := opcodeTable.lookup op

/-- The unmapped opcodes as R83 lists them, each range inclusive. -/
def unmappedRanges : List (Nat × Nat) :=
  [ (0x0F, 0x0F), (0x11, 0x11), (0x19, 0x1F), (0x25, 0x2F), (0x32, 0x3F), (0x43, 0x4F), (0x55, 0x5F), (0x65, 0x6F)
  , (0x73, 0x7F), (0x83, 0x8F), (0x93, 0x9F), (0xA9, 0xAF), (0xB6, 0xBF), (0xC6, 0xFF) ]

/-- R83: the opcode byte is one of the 183 unmapped values. -/
def opcodeUnmapped (op : Byte) : Bool := unmappedRanges.any fun r => decide (r.1 ≤ op.toNat ∧ op.toNat ≤ r.2)

/-- R73, R80, R83: decoding never fails to give fields; whether they name an instruction depends on the opcode alone. -/
def decode (b : InstrBytes) : Decoded :=
  match opcodeEntry (decodeFields b).opcode with
  | some build => .instr (build (decodeFields b))
  | none       => .rejected (.unmappedOpcode b.b0)

/-! ## The encoder

From the formats of R74. A bit the format ignores is written 0 (R77 lets it be anything): DESIGN CHOICE, log entry 14. -/

def packO (op : Byte) : InstrBytes := ⟨op, 0, 0, 0⟩
def packN (op : Byte) (n : Nibble) : InstrBytes := ⟨op, 0, byteOf 0 n, 0⟩
def packI (op : Byte) (hhll : Word) : InstrBytes := ⟨op, 0, loByte hhll, hiByte hhll⟩
def packXI (op : Byte) (x : Nibble) (hhll : Word) : InstrBytes := ⟨op, byteOf 0 x, loByte hhll, hiByte hhll⟩
def packXYI (op : Byte) (x y : Nibble) (hhll : Word) : InstrBytes := ⟨op, byteOf y x, loByte hhll, hiByte hhll⟩
def packXY (op : Byte) (x y : Nibble) : InstrBytes := ⟨op, byteOf y x, 0, 0⟩
def packXYZ (op : Byte) (x y z : Nibble) : InstrBytes := ⟨op, byteOf y x, byteOf 0 z, 0⟩
def packXN (op : Byte) (x n : Nibble) : InstrBytes := ⟨op, byteOf 0 x, byteOf 0 n, 0⟩
def packX (op : Byte) (x : Nibble) : InstrBytes := ⟨op, byteOf 0 x, 0, 0⟩
def packFL (op : Byte) (h : BitVec 7) (v : BitVec 1) : InstrBytes := ⟨op, 0, 0, h ++ v⟩
def packSG (op : Byte) (ad : Byte) (vtsr : Word) : InstrBytes := ⟨op, ad, loByte vtsr, hiByte vtsr⟩

/-- The four bytes of an instruction, by its row's opcode (R81) and format (R74). -/
def encode : Instr → InstrBytes
  | .nop => packO 0x00#8
  | .cls => packO 0x01#8
  | .vblnk => packO 0x02#8
  | .bgc n => packN 0x03#8 n
  | .spr w h => ⟨0x04#8, 0, w, h⟩
  | .drwImm x y hhll => packXYI 0x05#8 x y hhll
  | .drwReg x y z => packXYZ 0x06#8 x y z
  | .rnd x hhll => packXI 0x07#8 x hhll
  | .flip h v => packFL 0x08#8 h v
  | .snd0 => packO 0x09#8
  | .snd1 hhll => packI 0x0A#8 hhll
  | .snd2 hhll => packI 0x0B#8 hhll
  | .snd3 hhll => packI 0x0C#8 hhll
  | .snp x hhll => packXI 0x0D#8 x hhll
  | .sng ad vtsr => packSG 0x0E#8 ad vtsr
  | .jmp hhll => packI 0x10#8 hhll
  | .jx x hhll => packXI 0x12#8 x hhll
  | .jme x y hhll => packXYI 0x13#8 x y hhll
  | .call hhll => packI 0x14#8 hhll
  | .ret => packO 0x15#8
  | .jmpReg x => packX 0x16#8 x
  | .cx x hhll => packXI 0x17#8 x hhll
  | .callReg x => packX 0x18#8 x
  | .ldi x hhll => packXI 0x20#8 x hhll
  | .ldiSp hhll => packI 0x21#8 hhll
  | .ldm x hhll => packXI 0x22#8 x hhll
  | .ldmReg x y => packXY 0x23#8 x y
  | .mov x y => packXY 0x24#8 x y
  | .stm x hhll => packXI 0x30#8 x hhll
  | .stmReg x y => packXY 0x31#8 x y
  | .addi x hhll => packXI 0x40#8 x hhll
  | .add2 x y => packXY 0x41#8 x y
  | .add3 x y z => packXYZ 0x42#8 x y z
  | .subi x hhll => packXI 0x50#8 x hhll
  | .sub2 x y => packXY 0x51#8 x y
  | .sub3 x y z => packXYZ 0x52#8 x y z
  | .cmpi x hhll => packXI 0x53#8 x hhll
  | .cmp x y => packXY 0x54#8 x y
  | .andi x hhll => packXI 0x60#8 x hhll
  | .and2 x y => packXY 0x61#8 x y
  | .and3 x y z => packXYZ 0x62#8 x y z
  | .tsti x hhll => packXI 0x63#8 x hhll
  | .tst x y => packXY 0x64#8 x y
  | .ori x hhll => packXI 0x70#8 x hhll
  | .or2 x y => packXY 0x71#8 x y
  | .or3 x y z => packXYZ 0x72#8 x y z
  | .xori x hhll => packXI 0x80#8 x hhll
  | .xor2 x y => packXY 0x81#8 x y
  | .xor3 x y z => packXYZ 0x82#8 x y z
  | .muli x hhll => packXI 0x90#8 x hhll
  | .mul2 x y => packXY 0x91#8 x y
  | .mul3 x y z => packXYZ 0x92#8 x y z
  | .divi x hhll => packXI 0xA0#8 x hhll
  | .div2 x y => packXY 0xA1#8 x y
  | .div3 x y z => packXYZ 0xA2#8 x y z
  | .modi x hhll => packXI 0xA3#8 x hhll
  | .mod2 x y => packXY 0xA4#8 x y
  | .mod3 x y z => packXYZ 0xA5#8 x y z
  | .remi x hhll => packXI 0xA6#8 x hhll
  | .rem2 x y => packXY 0xA7#8 x y
  | .rem3 x y z => packXYZ 0xA8#8 x y z
  | .shlN x n => packXN 0xB0#8 x n
  | .shrN x n => packXN 0xB1#8 x n
  | .sarN x n => packXN 0xB2#8 x n
  | .shlReg x y => packXY 0xB3#8 x y
  | .shrReg x y => packXY 0xB4#8 x y
  | .sarReg x y => packXY 0xB5#8 x y
  | .push x => packX 0xC0#8 x
  | .pop x => packX 0xC1#8 x
  | .pushall => packO 0xC2#8
  | .popall => packO 0xC3#8
  | .pushf => packO 0xC4#8
  | .popf => packO 0xC5#8

/-- The format of an instruction's row (R81, R74). -/
def formatOf : Instr → Format
  | .nop | .cls | .vblnk | .snd0 | .ret | .pushall | .popall | .pushf | .popf => .O
  | .bgc _ => .N
  | .spr _ _ | .snd1 _ | .snd2 _ | .snd3 _ | .jmp _ | .call _ | .ldiSp _ => .I
  | .rnd _ _ | .snp _ _ | .jx _ _ | .cx _ _ | .ldi _ _ | .ldm _ _ | .stm _ _ => .XI
  | .addi _ _ | .subi _ _ | .cmpi _ _ | .andi _ _ | .tsti _ _ | .ori _ _ | .xori _ _ => .XI
  | .muli _ _ | .divi _ _ | .modi _ _ | .remi _ _ => .XI
  | .drwImm _ _ _ | .jme _ _ _ => .XYI
  | .ldmReg _ _ | .mov _ _ | .stmReg _ _ | .add2 _ _ | .sub2 _ _ | .cmp _ _ | .and2 _ _ | .tst _ _ => .XY
  | .or2 _ _ | .xor2 _ _ | .mul2 _ _ | .div2 _ _ | .mod2 _ _ | .rem2 _ _ => .XY
  | .shlReg _ _ | .shrReg _ _ | .sarReg _ _ => .XY
  | .drwReg _ _ _ | .add3 _ _ _ | .sub3 _ _ _ | .and3 _ _ _ | .or3 _ _ _ | .xor3 _ _ _ => .XYZ
  | .mul3 _ _ _ | .div3 _ _ _ | .mod3 _ _ _ | .rem3 _ _ _ => .XYZ
  | .shlN _ _ | .shrN _ _ | .sarN _ _ => .XN
  | .jmpReg _ | .callReg _ | .push _ | .pop _ => .X
  | .flip _ _ => .FL
  | .sng _ _ => .SG

/-- The bits of the four bytes that a format reads, the opcode among them (R74); the others are ignored (R77). -/
def Format.mask : Format → InstrBytes
  | .O   => ⟨0xFF, 0x00, 0x00, 0x00⟩
  | .N   => ⟨0xFF, 0x00, 0x0F, 0x00⟩
  | .I   => ⟨0xFF, 0x00, 0xFF, 0xFF⟩
  | .XI  => ⟨0xFF, 0x0F, 0xFF, 0xFF⟩
  | .XYI => ⟨0xFF, 0xFF, 0xFF, 0xFF⟩
  | .XY  => ⟨0xFF, 0xFF, 0x00, 0x00⟩
  | .XYZ => ⟨0xFF, 0xFF, 0x0F, 0x00⟩
  | .XN  => ⟨0xFF, 0x0F, 0x0F, 0x00⟩
  | .X   => ⟨0xFF, 0x0F, 0x00, 0x00⟩
  | .FL  => ⟨0xFF, 0x00, 0x00, 0xFF⟩
  | .SG  => ⟨0xFF, 0xFF, 0xFF, 0xFF⟩

/-- The bits of `b` selected by `m`. -/
def InstrBytes.masked (b m : InstrBytes) : InstrBytes := ⟨b.b0 &&& m.b0, b.b1 &&& m.b1, b.b2 &&& m.b2, b.b3 &&& m.b3⟩

/-! ## The opcode table's own numbering of a word -/

/-- R71: the four bytes of the 32-bit number `W = (b0 << 24) | (b1 << 16) | (b2 << 8) | b3`. -/
def bytesOfTableWord (w : BitVec 32) : InstrBytes :=
  ⟨w.extractLsb' 24 8, w.extractLsb' 16 8, w.extractLsb' 8 8, w.extractLsb' 0 8⟩

/-- The bits of an opcode-table row as `W` (every row has 32 bits; of a shorter row the bits above are 0). -/
def tableWord (nbits w : Nat) : BitVec 32 := BitVec.ofNat 32 (w % 2 ^ nbits)

/-- The instruction the decoder reads from a word numbered as spec/opcode_table.json numbers it (R71): bits 31..24 are the
opcode byte, which lies at the lowest address. Log entry 10. -/
def decodeTableWord (nbits w : Nat) : Option Instr :=
  match decode (bytesOfTableWord (tableWord nbits w)) with
  | .instr i    => some i
  | .rejected _ => none

end Sys2Proof
end

