-- ==== Sys2Proof/Machine/State.lean ====
section
/-!
DEFINITION. The machine's state as plain data (spec/10_state.md R20..R34), the reasons a step can stop, and the state right
after reset. Every piece of state the spec names is a field; INVENTORY.md lists each with its rule and reset value.
-/
namespace Sys2Proof.Machine

/-- The four flags (R27): C carry, Z zero, O overflow, N negative. -/
structure Flags where
  c : Bool
  z : Bool
  o : Bool
  n : Bool
  deriving DecidableEq, Repr

/-- The two fault codes (R300): 1 and 2 there. -/
inductive FaultCode where
  | unmappedOpcode
  | divideByZero
  deriving DecidableEq, Repr

/-- The fault record (R30): the code, the address of the faulting instruction, and its four fetched bytes. -/
structure FaultRecord where
  code  : FaultCode
  pc    : Word
  bytes : InstrBytes
  deriving DecidableEq, Repr

/-- One command on the peripheral port with its arguments, and with its answer where it has one (R40, R42). -/
inductive PeriphEvent where
  | clearForeground
  | clearBackground
  | isVblank (answer : Bool)
  | setBackgroundIndex (n : Nibble)
  | setSpriteDimensions (w h : Byte)
  | drawSpriteFromAddress (addr x y : Word) (collision : Bool)
  | drawSpriteFromRegisterPointer (value x y : Word) (collision : Bool)
  | setFlip (h v : Bool)
  | stop
  | playFixedToneA (durationMs : Word)
  | playFixedToneB (durationMs : Word)
  | playFixedToneC (durationMs : Word)
  | playTone (toneId durationMs : Word)
  | setupEnvelope (attackDecay : Byte) (volumeSustainRelease : Word)
  deriving DecidableEq, Repr

/-- The environment's answers for one request (R41): the request reads the one that it asks for. -/
structure EnvAnswer where
  vblank    : Bool
  collision : Bool
  rnd       : Word
  deriving DecidableEq, Repr

/-- Memory as a list of (address, byte) pairs: addresses strictly rising, and no byte equal to what an unlisted address reads
as (Memory.wf in Machine/Ops.lean). -/
abbrev Memory := List Host.Cell

/-- The whole state (R20), the command history (R42), and the environment's side of the port (R41).
`answers` and `draws` are the model's own fields, not the spec's (log entry 3): the answers the environment has queued for
coming requests, and how many requests have been answered. -/
structure State where
  /-- R21: the general registers R0..R15. -/
  regs       : Vector Word 16
  /-- R24: the address of the next instruction to fetch. -/
  pc         : Word
  /-- R26: the address of the next free stack slot. -/
  sp         : Word
  /-- R27: the four flags. -/
  flags      : Flags
  /-- R29: the number of completed steps. -/
  cycleCount : Nat
  /-- R30: the fault status; none while the engine runs. -/
  fault      : Option FaultRecord
  /-- R50: the 65536 cells. -/
  mem        : Memory
  /-- R42: the peripheral commands issued so far, oldest first. -/
  history    : List PeriphEvent
  /-- R41: answers queued by the environment; when it is empty, the answer is Config's free value. -/
  answers    : List EnvAnswer
  /-- R41: how many answers have been drawn. -/
  draws      : Nat
  deriving DecidableEq, Repr

/-- Why the machine stops with a fault. `step` never answers one: the spec's two faults are NEXT states that hold the fault
record (R301, R305), so that the driver can go on reading the state. -/
inductive Fault where
  /-- Raised by `runResult` (Sys2Proof/Safety.lean) alone, when a run has ended in a faulted state: R305 says such a state is
  never a successful end of a run. Safe. -/
  | engineStopped (record : FaultRecord)
  deriving DecidableEq, Repr

/-- Why the model gives no next state. -/
inductive Refusal where
  /-- Raised by `exec` for an instruction that has no meaning yet; no arm does so now. Safe. -/
  | notModelled (mnemonic : String)
  /-- Raised by the driver's reset (Machine/Driver.lean) for a ROM payload of more than 65536 bytes, which is outside the spec
  and must be refused (R331, D35, I13). Safe. -/
  | romImageTooLong (length : Nat)
  deriving DecidableEq, Repr

/-- The machine right after reset (R34, R330), with no ROM image loaded. `pc`, `sp`, the flags, `cycleCount` and `fault` are
the spec's values. The registers are 0: DESIGN CHOICE, unsafe (the spec gives `unset_reg`, log entry 1). No cell of memory is
listed, so each reads as Memory.unlisted: DESIGN CHOICE, unsafe (log entry 2). `history`, `answers` and `draws` are empty:
DESIGN CHOICE, safe (log entries 3 and 5). The driver's reset, with the image and the parameters as arguments, is in
Machine/Driver.lean. -/
def State.reset : State where
  regs       := Vector.replicate 16 0#16
  pc         := 0x0000#16
  sp         := 0xFDF0#16
  flags      := ⟨false, false, false, false⟩
  cycleCount := 0
  fault      := none
  mem        := []
  history    := []
  answers    := []
  draws      := 0

end Sys2Proof.Machine
end

