-- ==== Sys2Proof/Machine/Ops.lean ====
section
/-!
DEFINITION. The named operations over memory, registers, the stack, the peripheral port and the engine that every meaning is
built from: spec/20_memory.md R50..R61 (memory), spec/10_state.md R21..R42 (registers, port), spec/46_stack.md R270 (stack),
spec/30_encoding.md R89 (commit), spec/60_exceptions.md R300..R310 (taking a fault).
-/
namespace Sys2Proof.Machine

/-! ## Words and integers (R13) -/

/-- `u16(v)`, that is `v mod 65536` (R13). -/
def u16 (v : Int) : Word := BitVec.ofInt 16 v

/-- `s16(v)`, the two's-complement reading of a 16-bit pattern (R13, R22). -/
def s16 (w : Word) : Int := w.toInt

/-! ## Memory (R50..R61)

The list's operations take a plain address; the accesses below take a 16-bit address, so that every address computation wraps
(R51). -/

/-- What a cell that the memory does not list reads as. DESIGN CHOICE, unsafe (log entry 2): the spec's `unset_mem` is any
content (R61, D11). -/
def Memory.unlisted : Byte := 0#8

/-- The byte at an address. -/
def Memory.lookup (a : Nat) : Memory → Byte
  | []             => Memory.unlisted
  | (k, v) :: rest => if k = a then v else Memory.lookup a rest

/-- The memory with the address listed no more. -/
def Memory.erase (a : Nat) (m : Memory) : Memory := m.filter fun c => decide (c.1 ≠ a)

/-- The memory with the byte listed at the address, in its place in the order. -/
def Memory.put (a : Nat) (b : Byte) : Memory → Memory
  | []             => [(a, b)]
  | (k, v) :: rest =>
    if a < k then (a, b) :: (k, v) :: rest
    else if k = a then (a, b) :: rest
    else (k, v) :: Memory.put a b rest

/-- Writing one cell in canonical form: a byte that an unlisted cell would read as is not listed. -/
def Memory.store (a : Nat) (b : Byte) (m : Memory) : Memory :=
  if b = Memory.unlisted then Memory.erase a m else Memory.put a b m

/-- The canonical form: addresses strictly rising and inside the 64 KiB, and no listed byte equal to the unlisted one. -/
abbrev Memory.wf (m : Memory) : Prop :=
  m.Pairwise (fun c d => c.1 < d.1) ∧ ∀ c ∈ m, c.1 < 65536 ∧ c.2 ≠ Memory.unlisted

/-- `MemRead(a, 1)` (R52). -/
def Memory.read8 (m : Memory) (a : Word) : Byte := Memory.lookup a.toNat m

/-- `MemWrite(a, 1, v)` (R53). -/
def Memory.write8 (m : Memory) (a : Word) (b : Byte) : Memory := Memory.store a.toNat b m

/-- `MemRead(a, 2)`: the low byte at `a`, the high byte at `a + 1`, wrapping (R54, R56, R59). -/
def Memory.read16 (m : Memory) (a : Word) : Word := wordOf (m.read8 a) (m.read8 (a + 1))

/-- `MemWrite(a, 2, v)`: the low byte at `a`, then the high byte at `a + 1`, wrapping (R55, R56, R59). -/
def Memory.write16 (m : Memory) (a v : Word) : Memory := (m.write8 a (loByte v)).write8 (a + 1) (hiByte v)

/-! ## Registers (R21, R26, R27) -/

/-- `x[i]` (R14, R21). -/
def State.reg (s : State) (i : Reg) : Word := s.regs[i.toNat]'(by have := i.isLt; omega)

/-- `x[i] <- v` (R14, R21): no register is hardwired. -/
def State.setReg (s : State) (i : Reg) (v : Word) : State :=
  { s with regs := s.regs.set i.toNat v (by have := i.isLt; omega) }

/-- `sp <- v` (R14, R26). -/
def State.setSp (s : State) (v : Word) : State := { s with sp := v }

/-- The four flags written (R27). -/
def State.setFlags (s : State) (f : Flags) : State := { s with flags := f }

/-- Memory replaced. -/
def State.setMem (s : State) (m : Memory) : State := { s with mem := m }

/-- `get_signed(i)` (R22): a reading of the register that changes nothing. -/
def State.regSigned (s : State) (i : Reg) : Int := s16 (s.reg i)

/-- The same pure reading of `pc` (R22). -/
def State.pcSigned (s : State) : Int := s16 s.pc

/-- The same pure reading of `sp` (R22). -/
def State.spSigned (s : State) : Int := s16 s.sp

/-- The sixteen register selectors in the order R0..R15. -/
def allRegs : List Reg := [0, 1, 2, 3, 4, 5, 6, 7, 8, 9, 10, 11, 12, 13, 14, 15]

/-! ## The stack (R270) -/

/-- `Push(v)`: the word is written at `sp`, then `sp` grows by 2, wrapping, with no limit checked (R26, R270). -/
def State.push (s : State) (v : Word) : State := (s.setMem (s.mem.write16 s.sp v)).setSp (s.sp + 2)

/-- The state after `Pop()`: `sp` shrinks by 2, wrapping; the word stays in memory (R270). -/
def State.popped (s : State) : State := s.setSp (s.sp - 2)

/-- The word that `Pop()` returns: the one at the new `sp` (R270). -/
def State.popValue (s : State) : Word := s.mem.read16 (s.sp - 2)

/-! ## The peripheral port and the environment (R40..R42) -/

/-- A command goes out on the port and is recorded in issue order (R40, R42). -/
def State.issue (s : State) (e : PeriphEvent) : State := { s with history := s.history ++ [e] }

/-- The environment's answer to the next request (R41): the first queued one, else the free values of Config. -/
def State.answer (s : State) : EnvAnswer :=
  match s.answers with
  | a :: _ => a
  | []     => ⟨Config.vblankAnswer s.draws, Config.collisionAnswer s.draws, Config.rndAnswer s.draws⟩

/-- The request has been answered: its answer will not be given again. -/
def State.drawn (s : State) : State := { s with answers := s.answers.tail, draws := s.draws + 1 }

/-! ## Fetch and commit (R57, R58, R89) -/

/-- The four bytes at an address, each address wrapping (R57, R58, R72). -/
def Memory.fetch (m : Memory) (a : Word) : InstrBytes := ⟨m.read8 a, m.read8 (a + 1), m.read8 (a + 2), m.read8 (a + 3)⟩

/-- The four bytes at `pc`. -/
def State.fetchBytes (s : State) : InstrBytes := s.mem.fetch s.pc

/-- The memory with four bytes stored from an address up, each address wrapping. -/
def Memory.storeBytes (m : Memory) (a : Word) (b : InstrBytes) : Memory :=
  (((m.write8 a b.b0).write8 (a + 1) b.b1).write8 (a + 2) b.b2).write8 (a + 3) b.b3

/-- COMMIT and COUNT (R89): `pc <- u16(pc + delta)`, and one more completed step. The delta is taken modulo 65536 (R91, D32). -/
def State.commit (s : State) (delta : Word) : State := { s with pc := s.pc + delta, cycleCount := s.cycleCount + 1 }

/-- The delta of a transfer to the absolute target `t`, `t - pc` (R14, R91, R140). -/
def State.deltaTo (s : State) (t : Word) : Word := t - s.pc

/-! ## Taking a fault (R300..R310)

There is no vector, no saved status and no return: the one effect is the record, and the engine then stands still until the
driver's reset (Machine/Driver.lean), which alone clears it (R305, R309, R310). -/

/-- The number of a fault code (R300). -/
def FaultCode.number : FaultCode → Nat
  | .unmappedOpcode => 1
  | .divideByZero   => 2

/-- `raise <code>` (R301): the record of the instruction at `pc`, its address and its four bytes, and nothing else. The bytes
are those at `pc` now, which are the fetched ones, since nothing is written before a fault (R301; DEDUCED, log entry 6). -/
def State.raise (s : State) (code : FaultCode) : State := { s with fault := some ⟨code, s.pc, s.fetchBytes⟩ }

end Sys2Proof.Machine
end

