-- ==== Sys2Proof/Machine/Flags.lean ====
section
/-!
DEFINITION. The ALU: the exact results and the flag evaluator (spec/44_arith.md R190..R195, R219, R220, R224), the shift
results (spec/45_logic_shift.md R254), and the packed flag word (spec/10_state.md R28). Operands are raw unsigned patterns; an
arithmetic result is computed exactly and narrowed by u16 (R190). Each evaluator takes the old flags and keeps those it does
not write.
-/
namespace Sys2Proof.Machine

/-! ## Exact results (R190) -/

/-- The exact sum (R191). -/
def rawAdd (a b : Word) : Int := (a.toNat : Int) + (b.toNat : Int)

/-- The exact difference (R192). -/
def rawSub (a b : Word) : Int := (a.toNat : Int) - (b.toNat : Int)

/-- The exact product (R193). -/
def rawMul (a b : Word) : Int := (a.toNat : Int) * (b.toNat : Int)

/-- The stored sum. -/
def addResult (a b : Word) : Word := u16 (rawAdd a b)

/-- The stored difference. -/
def subResult (a b : Word) : Word := u16 (rawSub a b)

/-- The stored product: the low 16 bits. -/
def mulResult (a b : Word) : Word := u16 (rawMul a b)

/-- The unsigned floor quotient; asked for only where the divisor is not 0 (R219). -/
def divResult (a b : Word) : Word := BitVec.ofNat 16 (a.toNat / b.toNat)

/-- The unsigned remainder; asked for only where the divisor is not 0 (R219, R224). -/
def modResult (a b : Word) : Word := BitVec.ofNat 16 (a.toNat % b.toNat)

/-- `SHL`: `u16(v << c)`, 0 when `c >= 16` (R254). -/
def shlResult (v : Word) (c : Nat) : Word := v <<< c

/-- `SHR`: logical, 0 when `c >= 16` (R254). -/
def shrResult (v : Word) (c : Nat) : Word := v >>> c

/-- `SAR`: `u16(s16(v) >> c)`, sign bits fill from the left (R254, D9). -/
def sarResult (v : Word) (c : Nat) : Word := u16 (s16 v >>> c)

/-! ## The flag evaluator (R191..R195, R220) -/

/-- `flags_add` (R191); Z is on the raw sum (R195). -/
def flagsAdd (a b : Word) (_ : Flags) : Flags where
  c := decide (rawAdd a b > 0xFFFF)
  z := decide (rawAdd a b = 0)
  o := a.msb == b.msb && (addResult a b).msb != a.msb
  n := (addResult a b).msb

/-- `flags_sub` (R192); C is the unsigned borrow. -/
def flagsSub (a b : Word) (_ : Flags) : Flags where
  c := decide (rawSub a b < 0)
  z := decide (rawSub a b = 0)
  o := a.msb != b.msb && (subResult a b).msb != a.msb
  n := (subResult a b).msb

/-- `flags_mul` (R193); Z is on the raw product, O is kept. -/
def flagsMul (a b : Word) (f : Flags) : Flags where
  c := decide (rawMul a b > 0xFFFF)
  z := decide (rawMul a b = 0)
  o := f.o
  n := (mulResult a b).msb

/-- `flags_zn` (R194); C and O are kept. -/
def flagsZn (r : Word) (f : Flags) : Flags where
  c := f.c
  z := decide (r = 0)
  o := f.o
  n := r.msb

/-- `flags_div` (R220) on the quotient and the remainder of `a` by `b`; O is kept. -/
def flagsDiv (a b : Word) (f : Flags) : Flags where
  c := decide (modResult a b ≠ 0)
  z := decide (divResult a b = 0)
  o := f.o
  n := (divResult a b).msb

/-- The flags of MOD and REM: Z and N of the remainder (R224). -/
def flagsMod (a b : Word) (f : Flags) : Flags := flagsZn (modResult a b) f

/-- C written with the collision answer of a draw; the others are kept (R106, R107). -/
def flagsCollision (c : Bool) (f : Flags) : Flags := { f with c := c }

/-! ## The packed flag word (R28) -/

/-- `FLAGS16 = (C << 1) | (Z << 2) | (O << 6) | (N << 7)`, every other bit 0 (R28, D14). -/
def packFlags (f : Flags) : Word :=
  ((BitVec.ofBool f.c).setWidth 16 <<< 1) ||| ((BitVec.ofBool f.z).setWidth 16 <<< 2) |||
  ((BitVec.ofBool f.o).setWidth 16 <<< 6) ||| ((BitVec.ofBool f.n).setWidth 16 <<< 7)

/-- The flags of a popped word: bits 1, 2, 6 and 7; every other bit is ignored (R28, R276). -/
def unpackFlags (w : Word) : Flags := ⟨w.getLsbD 1, w.getLsbD 2, w.getLsbD 6, w.getLsbD 7⟩

end Sys2Proof.Machine
end

