-- ==== Sys2Proof/Machine/Operands.lean ====
section
/-!
DEFINITION. The operand forms (spec/30_encoding.md R75, R76, R82; spec/43_load_store.md R170; spec/45_logic_shift.md R254).
RX, RY and RZ are registers read through State.reg; HHLL is the decoded word, unchanged (R75).
-/
namespace Sys2Proof.Machine

/-- The effective address of an absolute access: HHLL itself (R170). -/
def absAddr (hhll : Word) : Word := hhll

/-- The effective address of a register-indirect access: RY, with no offset and no update (R170). -/
def regAddr (y : Reg) (s : State) : Word := s.reg y

/-- A shift count in the instruction: `f.n`, 0..15 (R75, R254). -/
def countOfNibble (n : Nibble) : Nat := n.toNat

/-- A shift count in a register: the full 16-bit value of RY, not masked (R254, D8). -/
def countOfReg (y : Reg) (s : State) : Nat := (s.reg y).toNat

/-- A flip field as a truth value: true when non-zero (R109, D15). -/
def flipBit {w : Nat} (f : BitVec w) : Bool := decide (f ≠ 0)

/-- The value RND writes: a draw brought into `[0, HHLL]` (R41, R108). Every value of the range is reached by some draw, and a
draw already in the range is written as it is (DEDUCED, log entry 4). -/
def rndWithin (hhll draw : Word) : Word := BitVec.ofNat 16 (draw.toNat % (hhll.toNat + 1))

end Sys2Proof.Machine
end

