-- ==== Sys2Proof/Machine/Forms.lean ====
section
/-!
DEFINITION. The shapes the meanings share: an instruction that ends in the next sequential one, a result written to a register
with its flags, a comparison, a division with its zero check, a command on the port, a transfer of control, a call
(spec/30_encoding.md R82, R89, R91; spec/44_arith.md R190, R219; spec/42_control.md R140; spec/41_system_peripheral.md R100).
-/
namespace Sys2Proof.Machine

/-- What a meaning answers. -/
abbrev Answer := Host.Outcome State Fault Refusal

/-- `return 4`: the step commits and goes on at `pc + 4` (R89). -/
def sequential (s : State) : Answer := .next (s.commit 4)

/-- `return t - pc`: the step commits and goes on at the absolute target `t` (R91, R140). -/
def transferTo (t : Word) (s : State) : Answer := .next (s.commit (s.deltaTo t))

/-- Push the return address `u16(pc + 4)` and transfer to `t` (R144, R147, R148). -/
def callTo (t : Word) (s : State) : Answer := transferTo t (s.push (s.pc + 4))

/-- An operation on `a` and `b`: its flags, then its result in `dst`, then sequential (R82, R190). The operands are read by the
caller from the state before anything is written (R340). -/
def aluInto (dst : Reg) (result : Word → Word → Word) (flags : Word → Word → Flags → Flags) (a b : Word) (s : State) : Answer :=
  sequential ((s.setFlags (flags a b s.flags)).setReg dst (result a b))

/-- An operation whose result is discarded: flags only (R203, R204, R244, R245). -/
def aluCompare (flags : Word → Word → Flags → Flags) (a b : Word) (s : State) : Answer :=
  sequential (s.setFlags (flags a b s.flags))

/-- A division or remainder: DivideByZero before anything is written when the divisor is 0, else as aluInto (R219, R303). -/
def aluDivide (dst : Reg) (result : Word → Word → Word) (flags : Word → Word → Flags → Flags) (a b : Word) (s : State) : Answer :=
  if b = 0 then .next (s.raise .divideByZero) else aluInto dst result flags a b s

/-- A 16-bit result written to RX with Z and N from it (R240, R254). -/
def resultInto (dst : Reg) (r : Word) (s : State) : Answer :=
  sequential ((s.setFlags (flagsZn r s.flags)).setReg dst r)

/-- Z and N of a result that is discarded (R244, R245). -/
def resultTest (r : Word) (s : State) : Answer := sequential (s.setFlags (flagsZn r s.flags))

/-- A register written, no flag changed (R170). -/
def loadInto (dst : Reg) (v : Word) (s : State) : Answer := sequential (s.setReg dst v)

/-- A word stored in memory, no flag changed (R170). -/
def storeWord (a v : Word) (s : State) : Answer := sequential (s.setMem (s.mem.write16 a v))

/-- One command without an answer goes out on the port (R40, R100). -/
def command (e : PeriphEvent) (s : State) : Answer := sequential (s.issue e)

/-- A sprite draw: the command goes out, its collision answer becomes C (R106, R107). -/
def drawSprite (event : Bool → PeriphEvent) (s : State) : Answer :=
  sequential ((s.drawn.issue (event s.answer.collision)).setFlags (flagsCollision s.answer.collision s.flags))

end Sys2Proof.Machine
end

