-- ==== Sys2Proof/Machine/Arith.lean ====
section
/-!
DEFINITION. Addition, subtraction, comparison, multiplication, division and remainder (spec/44_arith.md R190..R231).
Operands are read from the state before the flags and the destination are written (R190, R340).
-/
namespace Sys2Proof.Machine

/-- ADDI RX,HHLL (R196). -/
def execAddi (x : Reg) (hhll : Word) (s : State) : Answer := aluInto x addResult flagsAdd (s.reg x) hhll s

/-- ADD RX,RY (R197). -/
def execAdd2 (x y : Reg) (s : State) : Answer := aluInto x addResult flagsAdd (s.reg x) (s.reg y) s

/-- ADD RX,RY,RZ (R198): RZ is the destination. -/
def execAdd3 (x y z : Reg) (s : State) : Answer := aluInto z addResult flagsAdd (s.reg x) (s.reg y) s

/-- SUBI RX,HHLL (R200): RX is the minuend. -/
def execSubi (x : Reg) (hhll : Word) (s : State) : Answer := aluInto x subResult flagsSub (s.reg x) hhll s

/-- SUB RX,RY (R201): RX is the minuend. -/
def execSub2 (x y : Reg) (s : State) : Answer := aluInto x subResult flagsSub (s.reg x) (s.reg y) s

/-- SUB RX,RY,RZ (R202): RZ is the destination; RX is the minuend. -/
def execSub3 (x y z : Reg) (s : State) : Answer := aluInto z subResult flagsSub (s.reg x) (s.reg y) s

/-- CMPI RX,HHLL (R203): flags only. -/
def execCmpi (x : Reg) (hhll : Word) (s : State) : Answer := aluCompare flagsSub (s.reg x) hhll s

/-- CMP RX,RY (R204): flags only. -/
def execCmp (x y : Reg) (s : State) : Answer := aluCompare flagsSub (s.reg x) (s.reg y) s

/-- MULI RX,HHLL (R210). -/
def execMuli (x : Reg) (hhll : Word) (s : State) : Answer := aluInto x mulResult flagsMul (s.reg x) hhll s

/-- MUL RX,RY (R211). -/
def execMul2 (x y : Reg) (s : State) : Answer := aluInto x mulResult flagsMul (s.reg x) (s.reg y) s

/-- MUL RX,RY,RZ (R212): RZ is the destination. -/
def execMul3 (x y z : Reg) (s : State) : Answer := aluInto z mulResult flagsMul (s.reg x) (s.reg y) s

/-- DIVI RX,HHLL (R221): RX is the dividend. -/
def execDivi (x : Reg) (hhll : Word) (s : State) : Answer := aluDivide x divResult flagsDiv (s.reg x) hhll s

/-- DIV RX,RY (R222): RX is the dividend. -/
def execDiv2 (x y : Reg) (s : State) : Answer := aluDivide x divResult flagsDiv (s.reg x) (s.reg y) s

/-- DIV RX,RY,RZ (R223): RZ is the destination; RX is the dividend. -/
def execDiv3 (x y z : Reg) (s : State) : Answer := aluDivide z divResult flagsDiv (s.reg x) (s.reg y) s

/-- MODI RX,HHLL (R225): RX is the dividend. -/
def execModi (x : Reg) (hhll : Word) (s : State) : Answer := aluDivide x modResult flagsMod (s.reg x) hhll s

/-- MOD RX,RY (R226): RX is the dividend. -/
def execMod2 (x y : Reg) (s : State) : Answer := aluDivide x modResult flagsMod (s.reg x) (s.reg y) s

/-- MOD RX,RY,RZ (R227): RZ is the destination; RX is the dividend. -/
def execMod3 (x y z : Reg) (s : State) : Answer := aluDivide z modResult flagsMod (s.reg x) (s.reg y) s

/-- REMI RX,HHLL (R228), as the MOD form of the same shape (R224). -/
def execRemi (x : Reg) (hhll : Word) (s : State) : Answer := aluDivide x modResult flagsMod (s.reg x) hhll s

/-- REM RX,RY (R229), as the MOD form of the same shape (R224). -/
def execRem2 (x y : Reg) (s : State) : Answer := aluDivide x modResult flagsMod (s.reg x) (s.reg y) s

/-- REM RX,RY,RZ (R230): RZ is the destination, as the MOD form of the same shape (R224). -/
def execRem3 (x y z : Reg) (s : State) : Answer := aluDivide z modResult flagsMod (s.reg x) (s.reg y) s


end Sys2Proof.Machine
end

