-- ==== Sys2Proof/Machine/Control.lean ====
section
/-!
DEFINITION. Control transfer (spec/42_control.md R140..R149). Every target is absolute; no flag is read or written.
-/
namespace Sys2Proof.Machine

/-- JMP HHLL (R141). -/
def execJmp (hhll : Word) (s : State) : Answer := transferTo hhll s

/-- Jx HHLL (R142): taken when the field `x` is not 0; no condition code, no flag. -/
def execJx (x : Nibble) (hhll : Word) (s : State) : Answer := if x ≠ 0 then transferTo hhll s else sequential s

/-- JME RX,RY,HHLL (R143): the 16-bit patterns are compared. -/
def execJme (x y : Reg) (hhll : Word) (s : State) : Answer := if s.reg x = s.reg y then transferTo hhll s else sequential s

/-- CALL HHLL (R144). -/
def execCall (hhll : Word) (s : State) : Answer := callTo hhll s

/-- RET (R145): the word below `sp` is the target and stays in memory. -/
def execRet (s : State) : Answer := transferTo s.popValue s.popped

/-- JMP RX (R146). -/
def execJmpReg (x : Reg) (s : State) : Answer := transferTo (s.reg x) s

/-- Cx HHLL (R147): as CALL when the field `x` is not 0, else nothing but the advance. -/
def execCx (x : Nibble) (hhll : Word) (s : State) : Answer := if x ≠ 0 then callTo hhll s else sequential s

/-- CALL RX (R148): RX is read before the push. -/
def execCallReg (x : Reg) (s : State) : Answer := callTo (s.reg x) s

end Sys2Proof.Machine
end

