-- ==== Sys2Proof/Machine/LoadStore.lean ====
section
/-!
DEFINITION. Loads, stores and moves (spec/43_load_store.md R170..R177). 16-bit little-endian accesses; no flag changes.
-/
namespace Sys2Proof.Machine

/-- LDI RX,HHLL (R171). -/
def execLdi (x : Reg) (hhll : Word) (s : State) : Answer := loadInto x hhll s

/-- LDI SP,HHLL (R172). -/
def execLdiSp (hhll : Word) (s : State) : Answer := sequential (s.setSp hhll)

/-- LDM RX,HHLL (R173). -/
def execLdm (x : Reg) (hhll : Word) (s : State) : Answer := loadInto x (s.mem.read16 (absAddr hhll)) s

/-- LDM RX,RY (R174): the address is read before RX is written. -/
def execLdmReg (x y : Reg) (s : State) : Answer := loadInto x (s.mem.read16 (regAddr y s)) s

/-- MOV RX,RY (R175): a register copy; no memory is read (C2, D4). -/
def execMov (x y : Reg) (s : State) : Answer := loadInto x (s.reg y) s

/-- STM RX,HHLL (R176). -/
def execStm (x : Reg) (hhll : Word) (s : State) : Answer := storeWord (absAddr hhll) (s.reg x) s

/-- STM RX,RY (R177). -/
def execStmReg (x y : Reg) (s : State) : Answer := storeWord (regAddr y s) (s.reg x) s

end Sys2Proof.Machine
end

