-- ==== Sys2Proof/Machine/Logic.lean ====
section
/-!
DEFINITION. Bitwise logic, tests and shifts (spec/45_logic_shift.md R240..R260). Z and N of the result; C and O are kept.
-/
namespace Sys2Proof.Machine

/-- ANDI RX,HHLL (R241). -/
def execAndi (x : Reg) (hhll : Word) (s : State) : Answer := resultInto x (s.reg x &&& hhll) s

/-- AND RX,RY (R242). -/
def execAnd2 (x y : Reg) (s : State) : Answer := resultInto x (s.reg x &&& s.reg y) s

/-- AND RX,RY,RZ (R243): RZ is the destination. -/
def execAnd3 (x y z : Reg) (s : State) : Answer := resultInto z (s.reg x &&& s.reg y) s

/-- TSTI RX,HHLL (R244): flags only. -/
def execTsti (x : Reg) (hhll : Word) (s : State) : Answer := resultTest (s.reg x &&& hhll) s

/-- TST RX,RY (R245): flags only. -/
def execTst (x y : Reg) (s : State) : Answer := resultTest (s.reg x &&& s.reg y) s

/-- ORI RX,HHLL (R246). -/
def execOri (x : Reg) (hhll : Word) (s : State) : Answer := resultInto x (s.reg x ||| hhll) s

/-- OR RX,RY (R247). -/
def execOr2 (x y : Reg) (s : State) : Answer := resultInto x (s.reg x ||| s.reg y) s

/-- OR RX,RY,RZ (R248): RZ is the destination. -/
def execOr3 (x y z : Reg) (s : State) : Answer := resultInto z (s.reg x ||| s.reg y) s

/-- XORI RX,HHLL (R249). -/
def execXori (x : Reg) (hhll : Word) (s : State) : Answer := resultInto x (s.reg x ^^^ hhll) s

/-- XOR RX,RY (R250). -/
def execXor2 (x y : Reg) (s : State) : Answer := resultInto x (s.reg x ^^^ s.reg y) s

/-- XOR RX,RY,RZ (R251): RZ is the destination. -/
def execXor3 (x y z : Reg) (s : State) : Answer := resultInto z (s.reg x ^^^ s.reg y) s

/-! ## Shifts -/

/-- SHL RX,N (R255): shift left by `f.n`. -/
def execShlN (x : Reg) (n : Nibble) (s : State) : Answer := resultInto x (shlResult (s.reg x) (countOfNibble n)) s

/-- SHL RX,RY (R258): shift left by the full value of RY, read before RX is written. -/
def execShlReg (x y : Reg) (s : State) : Answer := resultInto x (shlResult (s.reg x) (countOfReg y s)) s

/-- SHR RX,N (R256): logical shift right by `f.n`. -/
def execShrN (x : Reg) (n : Nibble) (s : State) : Answer := resultInto x (shrResult (s.reg x) (countOfNibble n)) s

/-- SHR RX,RY (R259): logical shift right by the full value of RY, read before RX is written. -/
def execShrReg (x y : Reg) (s : State) : Answer := resultInto x (shrResult (s.reg x) (countOfReg y s)) s

/-- SAR RX,N (R257): arithmetic shift right by `f.n`. -/
def execSarN (x : Reg) (n : Nibble) (s : State) : Answer := resultInto x (sarResult (s.reg x) (countOfNibble n)) s

/-- SAR RX,RY (R260): arithmetic shift right by the full value of RY, read before RX is written. -/
def execSarReg (x y : Reg) (s : State) : Answer := resultInto x (sarResult (s.reg x) (countOfReg y s)) s


end Sys2Proof.Machine
end

