-- ==== Sys2Proof/Machine/Stack.lean ====
section
/-!
DEFINITION. Stack instructions (spec/46_stack.md R270..R276). The order of the accesses is the spec's own (R270, R340).
-/
namespace Sys2Proof.Machine

/-- `Push(x[i])` for each selector in turn (R273). -/
def pushRegs (rs : List Reg) (s : State) : State := rs.foldl (fun t i => t.push (t.reg i)) s

/-- `x[i] <- Pop()` for each selector in turn (R274). -/
def popRegs (rs : List Reg) (s : State) : State := rs.foldl (fun t i => t.popped.setReg i t.popValue) s

/-- PUSH RX (R271). -/
def execPush (x : Reg) (s : State) : Answer := sequential (s.push (s.reg x))

/-- POP RX (R272). -/
def execPop (x : Reg) (s : State) : Answer := sequential (s.popped.setReg x s.popValue)

/-- PUSHALL (R273): R0 first. -/
def execPushall (s : State) : Answer := sequential (pushRegs allRegs s)

/-- POPALL (R274): R15 first. -/
def execPopall (s : State) : Answer := sequential (popRegs allRegs.reverse s)

/-- PUSHF (R275). -/
def execPushf (s : State) : Answer := sequential (s.push (packFlags s.flags))

/-- POPF (R276): all four flags from the popped word. -/
def execPopf (s : State) : Answer := sequential (s.popped.setFlags (unpackFlags s.popValue))

end Sys2Proof.Machine
end

