-- ==== Sys2Proof/Machine/System.lean ====
section
/-!
DEFINITION. System and peripheral-command instructions (spec/41_system_peripheral.md R100..R115).
-/
namespace Sys2Proof.Machine

/-- NOP (R101). -/
def execNop (s : State) : Answer := sequential s

/-- CLS (R102): two commands, foreground first (D19). -/
def execCls (s : State) : Answer := sequential ((s.issue .clearForeground).issue .clearBackground)

/-- VBLNK (R103): delta 4 if the peripheral reports vblank, else 0, so that the next step fetches VBLNK again (R92). -/
def execVblnk (s : State) : Answer :=
  .next ((s.drawn.issue (.isVblank s.answer.vblank)).commit (if s.answer.vblank then 4 else 0))

/-- BGC N (R104). -/
def execBgc (n : Nibble) (s : State) : Answer := command (.setBackgroundIndex n) s

/-- SPR HHLL (R105): width `f.ll`, height `f.hh`. -/
def execSpr (w h : Byte) (s : State) : Answer := command (.setSpriteDimensions w h) s

/-- DRW RX,RY,HHLL (R106). -/
def execDrwImm (x y : Reg) (hhll : Word) (s : State) : Answer :=
  drawSprite (.drawSpriteFromAddress hhll (s.reg x) (s.reg y)) s

/-- DRW RX,RY,RZ (R107). -/
def execDrwReg (x y z : Reg) (s : State) : Answer :=
  drawSprite (.drawSpriteFromRegisterPointer (s.reg z) (s.reg x) (s.reg y)) s

/-- RND RX,HHLL (R108): a value of `[0, HHLL]` that the environment draws; no command goes out. -/
def execRnd (x : Reg) (hhll : Word) (s : State) : Answer := loadInto x (rndWithin hhll s.answer.rnd) s.drawn

/-- FLIP h,v (R109). -/
def execFlip (hflip : BitVec 7) (vflip : BitVec 1) (s : State) : Answer := command (.setFlip (flipBit hflip) (flipBit vflip)) s

/-- SND0 (R110). -/
def execSnd0 (s : State) : Answer := command .stop s

/-- SND1 HHLL (R111): tone a. -/
def execSnd1 (hhll : Word) (s : State) : Answer := command (.playFixedToneA hhll) s

/-- SND2 HHLL (R112): tone b. -/
def execSnd2 (hhll : Word) (s : State) : Answer := command (.playFixedToneB hhll) s

/-- SND3 HHLL (R113): tone c. -/
def execSnd3 (hhll : Word) (s : State) : Answer := command (.playFixedToneC hhll) s

/-- SNP RX,HHLL (R114): RX itself is the tone id, no memory is read (D17). -/
def execSnp (x : Reg) (hhll : Word) (s : State) : Answer := command (.playTone (s.reg x) hhll) s

/-- SNG AD,VTSR (R115). -/
def execSng (ad : Byte) (vtsr : Word) (s : State) : Answer := command (.setupEnvelope ad vtsr) s

end Sys2Proof.Machine
end

