-- ==== Sys2Proof/Machine/Dispatch.lean ====
section
/-!
DEFINITION. EXECUTE (spec/30_encoding.md R89, phases 3 to 5): one arm per constructor of Instr, each one call of its meaning.
-/
namespace Sys2Proof.Machine

def exec (i : Instr) (s : State) : Host.Outcome State Fault Refusal :=
  match i with
  | .nop => Sys2Proof.Machine.execNop s
  | .cls => Sys2Proof.Machine.execCls s
  | .vblnk => Sys2Proof.Machine.execVblnk s
  | .bgc n => Sys2Proof.Machine.execBgc n s
  | .spr w h => Sys2Proof.Machine.execSpr w h s
  | .drwImm x y hhll => Sys2Proof.Machine.execDrwImm x y hhll s
  | .drwReg x y z => Sys2Proof.Machine.execDrwReg x y z s
  | .rnd x hhll => Sys2Proof.Machine.execRnd x hhll s
  | .flip h v => Sys2Proof.Machine.execFlip h v s
  | .snd0 => Sys2Proof.Machine.execSnd0 s
  | .snd1 hhll => Sys2Proof.Machine.execSnd1 hhll s
  | .snd2 hhll => Sys2Proof.Machine.execSnd2 hhll s
  | .snd3 hhll => Sys2Proof.Machine.execSnd3 hhll s
  | .snp x hhll => Sys2Proof.Machine.execSnp x hhll s
  | .sng ad vtsr => Sys2Proof.Machine.execSng ad vtsr s
  | .jmp hhll => Sys2Proof.Machine.execJmp hhll s
  | .jx x hhll => Sys2Proof.Machine.execJx x hhll s
  | .jme x y hhll => Sys2Proof.Machine.execJme x y hhll s
  | .call hhll => Sys2Proof.Machine.execCall hhll s
  | .ret => Sys2Proof.Machine.execRet s
  | .jmpReg x => Sys2Proof.Machine.execJmpReg x s
  | .cx x hhll => Sys2Proof.Machine.execCx x hhll s
  | .callReg x => Sys2Proof.Machine.execCallReg x s
  | .ldi x hhll => Sys2Proof.Machine.execLdi x hhll s
  | .ldiSp hhll => Sys2Proof.Machine.execLdiSp hhll s
  | .ldm x hhll => Sys2Proof.Machine.execLdm x hhll s
  | .ldmReg x y => Sys2Proof.Machine.execLdmReg x y s
  | .mov x y => Sys2Proof.Machine.execMov x y s
  | .stm x hhll => Sys2Proof.Machine.execStm x hhll s
  | .stmReg x y => Sys2Proof.Machine.execStmReg x y s
  | .addi x hhll => Sys2Proof.Machine.execAddi x hhll s
  | .add2 x y => Sys2Proof.Machine.execAdd2 x y s
  | .add3 x y z => Sys2Proof.Machine.execAdd3 x y z s
  | .subi x hhll => Sys2Proof.Machine.execSubi x hhll s
  | .sub2 x y => Sys2Proof.Machine.execSub2 x y s
  | .sub3 x y z => Sys2Proof.Machine.execSub3 x y z s
  | .cmpi x hhll => Sys2Proof.Machine.execCmpi x hhll s
  | .cmp x y => Sys2Proof.Machine.execCmp x y s
  | .andi x hhll => Sys2Proof.Machine.execAndi x hhll s
  | .and2 x y => Sys2Proof.Machine.execAnd2 x y s
  | .and3 x y z => Sys2Proof.Machine.execAnd3 x y z s
  | .tsti x hhll => Sys2Proof.Machine.execTsti x hhll s
  | .tst x y => Sys2Proof.Machine.execTst x y s
  | .ori x hhll => Sys2Proof.Machine.execOri x hhll s
  | .or2 x y => Sys2Proof.Machine.execOr2 x y s
  | .or3 x y z => Sys2Proof.Machine.execOr3 x y z s
  | .xori x hhll => Sys2Proof.Machine.execXori x hhll s
  | .xor2 x y => Sys2Proof.Machine.execXor2 x y s
  | .xor3 x y z => Sys2Proof.Machine.execXor3 x y z s
  | .muli x hhll => Sys2Proof.Machine.execMuli x hhll s
  | .mul2 x y => Sys2Proof.Machine.execMul2 x y s
  | .mul3 x y z => Sys2Proof.Machine.execMul3 x y z s
  | .divi x hhll => Sys2Proof.Machine.execDivi x hhll s
  | .div2 x y => Sys2Proof.Machine.execDiv2 x y s
  | .div3 x y z => Sys2Proof.Machine.execDiv3 x y z s
  | .modi x hhll => Sys2Proof.Machine.execModi x hhll s
  | .mod2 x y => Sys2Proof.Machine.execMod2 x y s
  | .mod3 x y z => Sys2Proof.Machine.execMod3 x y z s
  | .remi x hhll => Sys2Proof.Machine.execRemi x hhll s
  | .rem2 x y => Sys2Proof.Machine.execRem2 x y s
  | .rem3 x y z => Sys2Proof.Machine.execRem3 x y z s
  | .shlN x n => Sys2Proof.Machine.execShlN x n s
  | .shrN x n => Sys2Proof.Machine.execShrN x n s
  | .sarN x n => Sys2Proof.Machine.execSarN x n s
  | .shlReg x y => Sys2Proof.Machine.execShlReg x y s
  | .shrReg x y => Sys2Proof.Machine.execShrReg x y s
  | .sarReg x y => Sys2Proof.Machine.execSarReg x y s
  | .push x => Sys2Proof.Machine.execPush x s
  | .pop x => Sys2Proof.Machine.execPop x s
  | .pushall => Sys2Proof.Machine.execPushall s
  | .popall => Sys2Proof.Machine.execPopall s
  | .pushf => Sys2Proof.Machine.execPushf s
  | .popf => Sys2Proof.Machine.execPopf s

end Sys2Proof.Machine
end

