-- ==== Sys2Proof/WellFormed.lean ====
section
/-!
DEFINITION. Which words and which terms are well-formed. The types of Syntax.lean carry every field's width, so no Instr term
can hold a register number, a count or an immediate outside its field (log entry 7). What is left to check is that the
word's opcode byte is mapped, by R83's own list of the unmapped values (spec/30_encoding.md), written apart from the table of
R81. No other bit of a word can make it ill-formed (R77, R84).
This file imports Decode.lean, since the list of R83 and the encoder stand there.
-/
namespace Sys2Proof

/-- R83, R84: four bytes are a well-formed instruction word exactly when the opcode byte is mapped. -/
abbrev InstrBytes.WellFormed (b : InstrBytes) : Prop := opcodeUnmapped b.b0 = false

/-- An instruction is well-formed when the word the encoder gives it is. -/
abbrev Instr.WellFormed (i : Instr) : Prop := (encode i).WellFormed

end Sys2Proof
end

