-- ==== Sys2Proof/Machine/Step.lean ====
section
/-!
DEFINITION. One step of the engine (spec/30_encoding.md R89): nothing in the faulted state (R305), else fetch, decode,
dispatch, execute, commit and count. And how the host places one instruction where the next step fetches it.
-/
namespace Sys2Proof.Machine

/-- R89. An unmapped opcode sets the fault record and nothing else (R83, R302); a faulted engine stands still (R305). -/
def step (s : State) : Host.Outcome State Fault Refusal :=
  if s.fault.isSome then .next s
  else
    match decode s.fetchBytes with
    | .instr i    => exec i s
    | .rejected _ => .next (s.raise .unmappedOpcode)

/-- `s` with the instruction word `w` (numbered as the opcode table numbers it, R71) stored at `pc`, where the next step
fetches. The fault status is cleared, since a faulted engine fetches nothing (R305). Log entry 8. -/
def State.withFetchWord (s : State) (nbits w : Nat) : State :=
  { s with mem := s.mem.storeBytes s.pc (bytesOfTableWord (tableWord nbits w)), fault := none }

end Sys2Proof.Machine
end

