-- ==== Sys2Proof/Machine/Driver.lean ====
section
/-!
DEFINITION. The driver port (spec/10_state.md R43, R44), the driver's reset with the spec's open parameters as arguments
(spec/70_reset_and_hazards.md R330, spec/00_scope.md R11), and the ROM file's layout (R331). These operations happen between
steps only (R44); none is a step.
-/
namespace Sys2Proof.Machine

/-! ## The ROM file (R331) -/

/-- The sixteen header bytes of a ROM file, in R331's order. The loader reads them; the core reads none of them (R332). -/
structure RomHeader where
  magic    : List Byte
  reserved : Byte
  version  : Byte
  size     : BitVec 32
  start    : Word
  crc      : BitVec 32
  deriving DecidableEq, Repr

/-- A little-endian 32-bit field. -/
def dwordOf (b0 b1 b2 b3 : Byte) : BitVec 32 := b3 ++ b2 ++ b1 ++ b0

/-- R331: a ROM file is the 16-byte header, magic at 0..3, reserved at 4, version at 5, size at 6..9, start at 10..11, CRC at
12..15, and then the payload. Nothing is checked here: the checks are the loader's, outside the spec's scope (R6). A file
of fewer than 16 bytes has no header. Log entry 15. -/
def splitRom : List Byte → Option (RomHeader × List Byte)
  | m0 :: m1 :: m2 :: m3 :: r :: v :: z0 :: z1 :: z2 :: z3 :: t0 :: t1 :: c0 :: c1 :: c2 :: c3 :: payload =>
    some (⟨[m0, m1, m2, m3], r, v, dwordOf z0 z1 z2 z3, wordOf t0 t1, dwordOf c0 c1 c2 c3⟩, payload)
  | _ => none

/-! ## Reset (R330) -/

/-- R330, R331: byte `k` of the payload at address `k`, and `unset_mem` at every address above it. -/
def resetCell (unsetMem : Nat → Byte) (romImage : List Byte) (a : Nat) : Byte := romImage.getD a (unsetMem a)

/-- The reset memory in canonical form: the cells of the 64 KiB that do not read as an unlisted one. -/
def resetMemory (unsetMem : Nat → Byte) (romImage : List Byte) : Memory :=
  ((List.range 65536).map fun a => (a, resetCell unsetMem romImage a)).filter fun c => decide (c.2 ≠ Memory.unlisted)

/-- `reset()` (R330, R34), for every `unset_reg`, `unset_mem` and `rom_image` (R11). It issues no command, and it is the only
operation that clears `fault`. The command history and the environment's side are no part of the spec's state (R20) and
carry over (log entry 5). A payload longer than the memory is refused (D35, I13). -/
def Driver.reset (unsetReg : Reg → Word) (unsetMem : Nat → Byte) (romImage : List Byte) (s : State) :
    Host.Outcome State Fault Refusal :=
  if romImage.length ≤ 65536 then
    .next { s with
      regs := Vector.ofFn fun i : Fin 16 => unsetReg (BitVec.ofFin i)
      pc := 0x0000#16
      sp := 0xFDF0#16
      flags := ⟨false, false, false, false⟩
      cycleCount := 0
      fault := none
      mem := resetMemory unsetMem romImage }
  else .refused (.romImageTooLong romImage.length)

/-! ## The other operations of the port (R43) -/

/-- `step()`: one step, with `cycle_count` as its optional return value. -/
def Driver.step (s : State) : Host.Outcome State Fault Refusal × Nat :=
  match Sys2Proof.Machine.step s with
  | .next t    => (.next t, t.cycleCount)
  | .fault r   => (.fault r, s.cycleCount)
  | .refused r => (.refused r, s.cycleCount)

/-- `read_register_signed(i)`: `s16(x[i])`, no state change (R22). -/
def Driver.readRegisterSigned (s : State) (i : Reg) : Int := s.regSigned i

/-- `write_register(i, v)`. -/
def Driver.writeRegister (s : State) (i : Reg) (v : Word) : State := s.setReg i v

/-- `read_memory(addr)`: 8 bits, no state change. -/
def Driver.readMemory (s : State) (a : Word) : Byte := s.mem.read8 a

/-- `write_memory(addr, v)`: a 16-bit store (C6, D26). -/
def Driver.writeMemory (s : State) (a v : Word) : State := s.setMem (s.mem.write16 a v)

/-- `program_counter()`. -/
def Driver.programCounter (s : State) : Word := s.pc

/-- `stack_pointer()`. -/
def Driver.stackPointer (s : State) : Word := s.sp

/-- `flags()`. -/
def Driver.flags (s : State) : Flags := s.flags

/-- The fault status (R30). -/
def Driver.faultStatus (s : State) : Option FaultRecord := s.fault

/-! ## The end of a run (R334)

The engine has no terminal state; when to stop calling `step` is the driver's choice. -/

/-- The driver's steps, until its stop predicate holds between two steps or its bound is used up. -/
def Driver.run (stop : State → Bool) : Nat → State → Host.Outcome State Fault Refusal
  | 0, s => .next s
  | n + 1, s =>
    if stop s then .next s
    else
      match Sys2Proof.Machine.step s with
      | .next t    => Driver.run stop n t
      | .fault r   => .fault r
      | .refused r => .refused r

/-- R334's first example of a stop predicate: the instruction at `pc` is `JMP pc`. -/
def Driver.stopsOnJumpToSelf (s : State) : Bool := decide (decode s.fetchBytes = .instr (.jmp s.pc))

/-- R334's second example: `fault != None`. -/
def Driver.stopsOnFault (s : State) : Bool := s.fault.isSome

end Sys2Proof.Machine
end

