-- ==== Sys2Proof/Safety.lean ====
section
/-!
DEFINITION. The terms the claims use: how a run ends, the invariant of the state, what a step keeps and what it writes, and
the spec's own tables of who writes what (spec/10_state.md R23, R26, R27, R40; spec/20_memory.md R60;
spec/60_exceptions.md R301..R306).
-/
namespace Sys2Proof.Machine

/-! ## How a run ends -/

/-- R305: a faulted state is final-with-fault, never a successful end of a run. -/
def runResult : Host.Outcome State Fault Refusal → Host.Outcome State Fault Refusal
  | .next s    => match s.fault with
    | none   => .next s
    | some r => .fault (.engineStopped r)
  | .fault r   => .fault r
  | .refused r => .refused r

/-! ## The invariant -/

/-- The divisor of a division or remainder, HHLL or RY; none for every other instruction (R219, R303). -/
def divisorOf (i : Instr) (s : State) : Option Word :=
  match i with
  | .divi _ hhll | .modi _ hhll | .remi _ hhll => some hhll
  | .div2 _ y | .mod2 _ y | .rem2 _ y          => some (s.reg y)
  | .div3 _ y _ | .mod3 _ y _ | .rem3 _ y _    => some (s.reg y)
  | .nop | .cls | .vblnk | .bgc _ | .spr _ _ | .drwImm _ _ _ | .drwReg _ _ _ | .rnd _ _ | .flip _ _ | .snd0
    | .snd1 _ | .snd2 _ | .snd3 _ | .snp _ _ | .sng _ _ | .jmp _ | .jx _ _ | .jme _ _ _ | .call _ | .ret
    | .jmpReg _ | .cx _ _ | .callReg _ | .ldi _ _ | .ldiSp _ | .ldm _ _ | .ldmReg _ _ | .mov _ _ | .stm _ _
    | .stmReg _ _ | .addi _ _ | .add2 _ _ | .add3 _ _ _ | .subi _ _ | .sub2 _ _ | .sub3 _ _ _ | .cmpi _ _
    | .cmp _ _ | .andi _ _ | .and2 _ _ | .and3 _ _ _ | .tsti _ _ | .tst _ _ | .ori _ _ | .or2 _ _ | .or3 _ _ _
    | .xori _ _ | .xor2 _ _ | .xor3 _ _ _ | .muli _ _ | .mul2 _ _ | .mul3 _ _ _ | .shlN _ _ | .shrN _ _
    | .sarN _ _ | .shlReg _ _ | .shrReg _ _ | .sarReg _ _ | .push _ | .pop _ | .pushall | .popall | .pushf
    | .popf => none

/-- What a fault record says is true of the state that holds it (R300, R302, R303, R306): it names the instruction at `pc`, and
its code's cause is there. -/
def FaultRecord.Describes (r : FaultRecord) (s : State) : Prop :=
  r.pc = s.pc ∧ r.bytes = s.fetchBytes ∧
  match r.code with
  | .unmappedOpcode => decode r.bytes = .rejected (.unmappedOpcode r.bytes.b0)
  | .divideByZero   => ∃ i, decode r.bytes = .instr i ∧ divisorOf i s = some 0

/-- The invariant every step keeps: memory is in canonical form, and a latched fault record is precise (R306). -/
def State.Inv (s : State) : Prop := s.mem.wf ∧ ∀ r, s.fault = some r → r.Describes s

/-! ## What a step keeps and writes -/

/-- `exec` answers a next state, and `P` holds of it. -/
def Completes (i : Instr) (s : State) (P : State → Prop) : Prop := ∃ t, exec i s = .next t ∧ P t

/-- Every word with this opcode byte, whatever its other bits, decodes to the instruction that its fields give (R77, R81). -/
def DecodesAs (op : Byte) (build : DecodedFields → Instr) : Prop :=
  ∀ b1 b2 b3 : Byte, decode ⟨op, b1, b2, b3⟩ = .instr (build (decodeFields ⟨op, b1, b2, b3⟩))

/-- No general register changed. -/
def RegsKept (s t : State) : Prop := ∀ j : Reg, t.reg j = s.reg j

/-- The register `x` holds `v`, and no other general register changed. -/
def RegWritten (x : Reg) (v : Word) (s t : State) : Prop := t.reg x = v ∧ ∀ j : Reg, j ≠ x → t.reg j = s.reg j

/-- No byte of memory changed. -/
def MemKept (s t : State) : Prop := ∀ a : Word, t.mem.read8 a = s.mem.read8 a

/-- The word `v` stands at `a`, low byte first, and no other byte of memory changed (R55, R56). -/
def WordStored (a v : Word) (s t : State) : Prop :=
  (t.mem.read8 a).toNat = v.toNat % 256 ∧ (t.mem.read8 (a + 1)).toNat = v.toNat / 256 ∧
  ∀ b : Word, b ≠ a → b ≠ a + 1 → t.mem.read8 b = s.mem.read8 b

/-- No peripheral command went out, and no answer was drawn. -/
def PortKept (s t : State) : Prop := t.history = s.history ∧ t.answers = s.answers ∧ t.draws = s.draws

/-- The step committed at `target`, counted once, and raised no fault (R89). -/
def Advanced (target : Word) (s t : State) : Prop :=
  t.pc = target ∧ t.cycleCount = s.cycleCount + 1 ∧ t.fault = s.fault

/-- Only a register and the flags changed, beside the advance to `pc + 4`. -/
def RegOnly (x : Reg) (v : Word) (s t : State) : Prop :=
  RegWritten x v s t ∧ t.sp = s.sp ∧ MemKept s t ∧ PortKept s t ∧ Advanced (s.pc + 4) s t

/-- Only the flags changed, beside the advance to `pc + 4`. -/
def FlagsOnly (s t : State) : Prop :=
  RegsKept s t ∧ t.sp = s.sp ∧ MemKept s t ∧ PortKept s t ∧ Advanced (s.pc + 4) s t

/-- Only `pc` and the count changed. -/
def JumpOnly (target : Word) (s t : State) : Prop :=
  RegsKept s t ∧ t.sp = s.sp ∧ t.flags = s.flags ∧ MemKept s t ∧ PortKept s t ∧ Advanced target s t

/-- The return address was pushed and control went to `target`; nothing else changed (R144, R149). -/
def Called (target : Word) (s t : State) : Prop :=
  WordStored s.sp (s.pc + 4) s t ∧ t.sp = s.sp + 2 ∧ RegsKept s t ∧ t.flags = s.flags ∧ PortKept s t ∧ Advanced target s t

/-! ## Flags as the spec defines them on the exact result (R191..R194, R220) -/

/-- R191: C, Z, O and N after `a + b`. -/
def AddFlags (a b : Word) (f : Flags) : Prop :=
  (f.c = true ↔ 0xFFFF < a.toNat + b.toNat) ∧ (f.z = true ↔ a.toNat + b.toNat = 0) ∧
  (f.o = true ↔ a.msb = b.msb ∧ (a + b).msb ≠ a.msb) ∧ (f.n = true ↔ 0x8000 ≤ (a.toNat + b.toNat) % 0x10000)

/-- R192: C, Z, O and N after `a - b`. -/
def SubFlags (a b : Word) (f : Flags) : Prop :=
  (f.c = true ↔ a.toNat < b.toNat) ∧ (f.z = true ↔ a.toNat = b.toNat) ∧
  (f.o = true ↔ a.msb ≠ b.msb ∧ (a - b).msb ≠ a.msb) ∧ (f.n = true ↔ 0x8000 ≤ (a.toNat + 0x10000 - b.toNat) % 0x10000)

/-- R193: C, Z and N after `a * b`; O as before. -/
def MulFlags (a b : Word) (old f : Flags) : Prop :=
  (f.c = true ↔ 0xFFFF < a.toNat * b.toNat) ∧ (f.z = true ↔ a.toNat * b.toNat = 0) ∧
  (f.n = true ↔ 0x8000 ≤ a.toNat * b.toNat % 0x10000) ∧ f.o = old.o

/-- R220: C, Z and N after the quotient of `a` by `b`; O as before. -/
def DivFlags (a b : Word) (old f : Flags) : Prop :=
  (f.c = true ↔ a.toNat % b.toNat ≠ 0) ∧ (f.z = true ↔ a.toNat / b.toNat = 0) ∧
  (f.n = true ↔ 0x8000 ≤ a.toNat / b.toNat) ∧ f.o = old.o

/-- R194: Z and N of the 16-bit result with this value; C and O as before. -/
def ZnFlags (r : Nat) (old f : Flags) : Prop :=
  (f.z = true ↔ r = 0) ∧ (f.n = true ↔ 0x8000 ≤ r) ∧ f.c = old.c ∧ f.o = old.o

/-! ## The spec's tables of who writes what -/

/-- R23: the general registers an instruction may write. -/
def destRegs : Instr → List Reg
  | .rnd x _ | .ldi x _ | .ldm x _ | .ldmReg x _ | .mov x _ | .pop x => [x]
  | .addi x _ | .add2 x _ | .subi x _ | .sub2 x _ | .andi x _ | .and2 x _ | .ori x _ | .or2 x _ | .xori x _ | .xor2 x _ => [x]
  | .muli x _ | .mul2 x _ | .divi x _ | .div2 x _ | .modi x _ | .mod2 x _ | .remi x _ | .rem2 x _ => [x]
  | .shlN x _ | .shrN x _ | .sarN x _ | .shlReg x _ | .shrReg x _ | .sarReg x _ => [x]
  | .add3 _ _ z | .sub3 _ _ z | .and3 _ _ z | .or3 _ _ z | .xor3 _ _ z => [z]
  | .mul3 _ _ z | .div3 _ _ z | .mod3 _ _ z | .rem3 _ _ z => [z]
  | .popall => allRegs
  | .nop | .cls | .vblnk | .bgc _ | .spr _ _ | .drwImm _ _ _ | .drwReg _ _ _ | .flip _ _ | .snd0 | .snd1 _
    | .snd2 _ | .snd3 _ | .snp _ _ | .sng _ _ | .jmp _ | .jx _ _ | .jme _ _ _ | .call _ | .ret | .jmpReg _
    | .cx _ _ | .callReg _ | .ldiSp _ | .stm _ _ | .stmReg _ _ | .cmpi _ _ | .cmp _ _ | .tsti _ _ | .tst _ _
    | .push _ | .pushall | .pushf | .popf => []

/-- A row of R27's table: which flags are written. -/
structure FlagSet where
  c : Bool
  z : Bool
  o : Bool
  n : Bool
  deriving DecidableEq, Repr

/-- R27: the flags each instruction may write. -/
def flagsWritten : Instr → FlagSet
  | .addi _ _ | .add2 _ _ | .add3 _ _ _ => ⟨true, true, true, true⟩
  | .subi _ _ | .sub2 _ _ | .sub3 _ _ _ | .cmpi _ _ | .cmp _ _ => ⟨true, true, true, true⟩
  | .muli _ _ | .mul2 _ _ | .mul3 _ _ _ => ⟨true, true, false, true⟩
  | .divi _ _ | .div2 _ _ | .div3 _ _ _ => ⟨true, true, false, true⟩
  | .modi _ _ | .mod2 _ _ | .mod3 _ _ _ | .remi _ _ | .rem2 _ _ | .rem3 _ _ _ => ⟨false, true, false, true⟩
  | .andi _ _ | .and2 _ _ | .and3 _ _ _ | .tsti _ _ | .tst _ _ => ⟨false, true, false, true⟩
  | .ori _ _ | .or2 _ _ | .or3 _ _ _ | .xori _ _ | .xor2 _ _ | .xor3 _ _ _ => ⟨false, true, false, true⟩
  | .shlN _ _ | .shrN _ _ | .sarN _ _ | .shlReg _ _ | .shrReg _ _ | .sarReg _ _ => ⟨false, true, false, true⟩
  | .drwImm _ _ _ | .drwReg _ _ _ => ⟨true, false, false, false⟩
  | .popf => ⟨true, true, true, true⟩
  | .nop | .cls | .vblnk | .bgc _ | .spr _ _ | .rnd _ _ | .flip _ _ | .snd0 | .snd1 _ | .snd2 _ | .snd3 _
    | .snp _ _ | .sng _ _ | .jmp _ | .jx _ _ | .jme _ _ _ | .call _ | .ret | .jmpReg _ | .cx _ _ | .callReg _
    | .ldi _ _ | .ldiSp _ | .ldm _ _ | .ldmReg _ _ | .mov _ _ | .stm _ _ | .stmReg _ _ | .push _ | .pop _
    | .pushall | .popall | .pushf => ⟨false, false, false, false⟩

/-- R26: the instructions that write `sp`. -/
def writesSp : Instr → Bool
  | .ldiSp _ | .call _ | .callReg _ | .ret | .push _ | .pop _ | .pushall | .popall | .pushf | .popf => true
  | .cx x _ => decide (x ≠ 0)
  | .nop | .cls | .vblnk | .bgc _ | .spr _ _ | .drwImm _ _ _ | .drwReg _ _ _ | .rnd _ _ | .flip _ _ | .snd0
    | .snd1 _ | .snd2 _ | .snd3 _ | .snp _ _ | .sng _ _ | .jmp _ | .jx _ _ | .jme _ _ _ | .jmpReg _ | .ldi _ _
    | .ldm _ _ | .ldmReg _ _ | .mov _ _ | .stm _ _ | .stmReg _ _ | .addi _ _ | .add2 _ _ | .add3 _ _ _
    | .subi _ _ | .sub2 _ _ | .sub3 _ _ _ | .cmpi _ _ | .cmp _ _ | .andi _ _ | .and2 _ _ | .and3 _ _ _
    | .tsti _ _ | .tst _ _ | .ori _ _ | .or2 _ _ | .or3 _ _ _ | .xori _ _ | .xor2 _ _ | .xor3 _ _ _ | .muli _ _
    | .mul2 _ _ | .mul3 _ _ _ | .divi _ _ | .div2 _ _ | .div3 _ _ _ | .modi _ _ | .mod2 _ _ | .mod3 _ _ _
    | .remi _ _ | .rem2 _ _ | .rem3 _ _ _ | .shlN _ _ | .shrN _ _ | .sarN _ _ | .shlReg _ _ | .shrReg _ _
    | .sarReg _ _ => false

/-- R60: the bytes an instruction stores to, as a start address and a length. -/
def storeSpan (i : Instr) (s : State) : Option (Word × Nat) :=
  match i with
  | .stm _ hhll => some (absAddr hhll, 2)
  | .stmReg _ y => some (regAddr y s, 2)
  | .push _ | .call _ | .callReg _ | .pushf => some (s.sp, 2)
  | .cx x _ => if x ≠ 0 then some (s.sp, 2) else none
  | .pushall => some (s.sp, 32)
  | .nop | .cls | .vblnk | .bgc _ | .spr _ _ | .drwImm _ _ _ | .drwReg _ _ _ | .rnd _ _ | .flip _ _ | .snd0
    | .snd1 _ | .snd2 _ | .snd3 _ | .snp _ _ | .sng _ _ | .jmp _ | .jx _ _ | .jme _ _ _ | .ret | .jmpReg _
    | .ldi _ _ | .ldiSp _ | .ldm _ _ | .ldmReg _ _ | .mov _ _ | .addi _ _ | .add2 _ _ | .add3 _ _ _ | .subi _ _
    | .sub2 _ _ | .sub3 _ _ _ | .cmpi _ _ | .cmp _ _ | .andi _ _ | .and2 _ _ | .and3 _ _ _ | .tsti _ _ | .tst _ _
    | .ori _ _ | .or2 _ _ | .or3 _ _ _ | .xori _ _ | .xor2 _ _ | .xor3 _ _ _ | .muli _ _ | .mul2 _ _
    | .mul3 _ _ _ | .divi _ _ | .div2 _ _ | .div3 _ _ _ | .modi _ _ | .mod2 _ _ | .mod3 _ _ _ | .remi _ _
    | .rem2 _ _ | .rem3 _ _ _ | .shlN _ _ | .shrN _ _ | .sarN _ _ | .shlReg _ _ | .shrReg _ _ | .sarReg _ _
    | .pop _ | .popall | .popf => none

/-- An address lies in a stored span, wrapping at the top (R51). -/
def InSpan (a : Word) (span : Option (Word × Nat)) : Prop := ∃ base n, span = some (base, n) ∧ (a - base).toNat < n

/-- R40: the commands an instruction issues, in order, with their answers. -/
def commandsOf (i : Instr) (s : State) : List PeriphEvent :=
  match i with
  | .cls => [.clearForeground, .clearBackground]
  | .vblnk => [.isVblank s.answer.vblank]
  | .bgc n => [.setBackgroundIndex n]
  | .spr w h => [.setSpriteDimensions w h]
  | .drwImm x y hhll => [.drawSpriteFromAddress hhll (s.reg x) (s.reg y) s.answer.collision]
  | .drwReg x y z => [.drawSpriteFromRegisterPointer (s.reg z) (s.reg x) (s.reg y) s.answer.collision]
  | .flip h v => [.setFlip (flipBit h) (flipBit v)]
  | .snd0 => [.stop]
  | .snd1 hhll => [.playFixedToneA hhll]
  | .snd2 hhll => [.playFixedToneB hhll]
  | .snd3 hhll => [.playFixedToneC hhll]
  | .snp x hhll => [.playTone (s.reg x) hhll]
  | .sng ad vtsr => [.setupEnvelope ad vtsr]
  | .nop | .rnd _ _ | .jmp _ | .jx _ _ | .jme _ _ _ | .call _ | .ret | .jmpReg _ | .cx _ _ | .callReg _
    | .ldi _ _ | .ldiSp _ | .ldm _ _ | .ldmReg _ _ | .mov _ _ | .stm _ _ | .stmReg _ _ | .addi _ _ | .add2 _ _
    | .add3 _ _ _ | .subi _ _ | .sub2 _ _ | .sub3 _ _ _ | .cmpi _ _ | .cmp _ _ | .andi _ _ | .and2 _ _
    | .and3 _ _ _ | .tsti _ _ | .tst _ _ | .ori _ _ | .or2 _ _ | .or3 _ _ _ | .xori _ _ | .xor2 _ _ | .xor3 _ _ _
    | .muli _ _ | .mul2 _ _ | .mul3 _ _ _ | .divi _ _ | .div2 _ _ | .div3 _ _ _ | .modi _ _ | .mod2 _ _
    | .mod3 _ _ _ | .remi _ _ | .rem2 _ _ | .rem3 _ _ _ | .shlN _ _ | .shrN _ _ | .sarN _ _ | .shlReg _ _
    | .shrReg _ _ | .sarReg _ _ | .push _ | .pop _ | .pushall | .popall | .pushf | .popf => []

/-- R140, R103: the instructions whose delta can differ from 4. -/
def mayTransfer : Instr → Bool
  | .vblnk | .jmp _ | .jx _ _ | .jme _ _ _ | .call _ | .ret | .jmpReg _ | .cx _ _ | .callReg _ => true
  | .nop | .cls | .bgc _ | .spr _ _ | .drwImm _ _ _ | .drwReg _ _ _ | .rnd _ _ | .flip _ _ | .snd0 | .snd1 _
    | .snd2 _ | .snd3 _ | .snp _ _ | .sng _ _ | .ldi _ _ | .ldiSp _ | .ldm _ _ | .ldmReg _ _ | .mov _ _
    | .stm _ _ | .stmReg _ _ | .addi _ _ | .add2 _ _ | .add3 _ _ _ | .subi _ _ | .sub2 _ _ | .sub3 _ _ _
    | .cmpi _ _ | .cmp _ _ | .andi _ _ | .and2 _ _ | .and3 _ _ _ | .tsti _ _ | .tst _ _ | .ori _ _ | .or2 _ _
    | .or3 _ _ _ | .xori _ _ | .xor2 _ _ | .xor3 _ _ _ | .muli _ _ | .mul2 _ _ | .mul3 _ _ _ | .divi _ _
    | .div2 _ _ | .div3 _ _ _ | .modi _ _ | .mod2 _ _ | .mod3 _ _ _ | .remi _ _ | .rem2 _ _ | .rem3 _ _ _
    | .shlN _ _ | .shrN _ _ | .sarN _ _ | .shlReg _ _ | .shrReg _ _ | .sarReg _ _ | .push _ | .pop _ | .pushall
    | .popall | .pushf | .popf => false

end Sys2Proof.Machine
end

