-- ==== Sys2Proof/Certificates/Slice0/Obligations.lean ====
section
/-!
DEFINITION. The statements for the provers. Each docstring names the rules of spec/ that it formalises; the terms (Completes,
RegOnly, AddFlags, …) are defined in Sys2Proof/Safety.lean.
-/

open Sys2Proof Sys2Proof.Machine

/-! ## Encoding -/

/-- R72: the decoder's four bytes stand at an address and the three after it, modulo 65536; every field of the decoder, as
arithmetic on the four bytes. -/
def Obligations.FieldsOfFourBytes : Prop :=
  (∀ (m : Memory) (a : Word),
    m.fetch a = ⟨Memory.lookup a.toNat m, Memory.lookup ((a.toNat + 1) % 65536) m,
      Memory.lookup ((a.toNat + 2) % 65536) m, Memory.lookup ((a.toNat + 3) % 65536) m⟩) ∧
  ∀ b : InstrBytes,
    (decodeFields b).opcode = b.b0 ∧
    (decodeFields b).y.toNat = b.b1.toNat / 16 ∧ (decodeFields b).x.toNat = b.b1.toNat % 16 ∧
    (decodeFields b).ad = b.b1 ∧ (decodeFields b).ll = b.b2 ∧ (decodeFields b).n.toNat = b.b2.toNat % 16 ∧
    (decodeFields b).hh = b.b3 ∧
    (decodeFields b).hflip.toNat = b.b3.toNat / 2 ∧ (decodeFields b).vflip.toNat = b.b3.toNat % 2 ∧
    (decodeFields b).hhll.toNat = b.b3.toNat * 256 + b.b2.toNat ∧ (decodeFields b).vtsr = (decodeFields b).hhll

/-- A few words of the spec (T402, T410, and the examples of R115, R145, R198, R229) decode to their instructions. -/
def Obligations.SpecWordsDecode : Prop :=
  decode ⟨0x40, 0x12, 0x01, 0x02⟩ = .instr (.addi 2 0x0201) ∧
  decode ⟨0x0E, 0x12, 0x34, 0x56⟩ = .instr (.sng 0x12 0x5634) ∧
  decode ⟨0x08, 0x00, 0x00, 0x04⟩ = .instr (.flip 2 0) ∧
  decode ⟨0x13, 0x21, 0x00, 0x01⟩ = .instr (.jme 1 2 0x0100) ∧
  decode ⟨0x30, 0x01, 0xFF, 0xAA⟩ = .instr (.stm 1 0xAAFF) ∧
  decode ⟨0x42, 0x21, 0x03, 0x00⟩ = .instr (.add3 1 2 3) ∧
  decode ⟨0xA7, 0x21, 0x00, 0x00⟩ = .instr (.rem2 1 2) ∧
  decode ⟨0xB0, 0x01, 0xF1, 0x00⟩ = .instr (.shlN 1 1) ∧
  decode ⟨0xC1, 0x02, 0x00, 0x00⟩ = .instr (.pop 2) ∧
  decode ⟨0xFF, 0xFF, 0xFF, 0xFF⟩ = .rejected (.unmappedOpcode 0xFF)

/-- Every well-formed instruction, with every operand at every value its field admits, is read back from its encoding. -/
def Obligations.DecodeOfEncode : Prop := ∀ i : Instr, i.WellFormed → decode (encode i) = .instr i

/-- The encoding of a decoded word is that word with the bits its format ignores cleared (R74, R77; log entry 14). -/
def Obligations.EncodeOfDecode : Prop :=
  ∀ (b : InstrBytes) (i : Instr), decode b = .instr i → encode i = b.masked (formatOf i).mask

/-- R77, R84: two words that agree on the bits the instruction's format reads decode to the same instruction. -/
def Obligations.IgnoredBitsHaveNoEffect : Prop :=
  ∀ (b b' : InstrBytes) (i : Instr), decode b = .instr i →
    b'.masked (formatOf i).mask = b.masked (formatOf i).mask → decode b' = .instr i

/-- R73, R83: a word is rejected, by the name of its opcode, exactly when the opcode is one of the 183 unmapped values that R83
lists; every other word is an instruction, whatever its other bytes. -/
def Obligations.UnmappedOpcodesRejected : Prop :=
  (∀ b : InstrBytes, opcodeUnmapped b.b0 = true → decode b = .rejected (.unmappedOpcode b.b0)) ∧
  (∀ b : InstrBytes, opcodeUnmapped b.b0 = false → ∃ i, decode b = .instr i) ∧
  ((List.range 256).filter fun k => opcodeUnmapped (BitVec.ofNat 8 k)).length = 183

/-! ## Memory -/

/-- R54, R55, R56, R59: a stored word reads back, its low byte first; every other byte is as before; at every address, odd or
at the top. -/
def Obligations.WordStoreThenLoad : Prop :=
  ∀ (m : Memory) (a v : Word),
    (m.write16 a v).read16 a = v ∧
    ((m.write16 a v).read8 a).toNat = v.toNat % 256 ∧ ((m.write16 a v).read8 (a + 1)).toNat = v.toNat / 256 ∧
    (∀ b : Word, b ≠ a → b ≠ a + 1 → (m.write16 a v).read8 b = m.read8 b) ∧
    (m.read16 a).toNat = (m.read8 (a + 1)).toNat * 256 + (m.read8 a).toNat

/-- Two memories in canonical form that read alike at every address are the same data. -/
def Obligations.CanonicalMemoriesEqual : Prop :=
  ∀ m m' : Memory, m.wf → m'.wf → (∀ a : Word, m.read8 a = m'.read8 a) → m = m'

/-- R57, R58 (the spec marks both as derived from R51, R54 and R72): the fetch reads the four bytes from `pc` up, wrapping; the first is the opcode, and HHLL is the memory word at
`pc + 2`. -/
def Obligations.FetchReadsMemoryFromPc : Prop :=
  ∀ s : State,
    s.fetchBytes.b0 = Memory.lookup s.pc.toNat s.mem ∧
    s.fetchBytes.b1 = Memory.lookup ((s.pc.toNat + 1) % 65536) s.mem ∧
    s.fetchBytes.b2 = Memory.lookup ((s.pc.toNat + 2) % 65536) s.mem ∧
    s.fetchBytes.b3 = Memory.lookup ((s.pc.toNat + 3) % 65536) s.mem ∧
    (decodeFields s.fetchBytes).opcode = Memory.lookup s.pc.toNat s.mem ∧
    (decodeFields s.fetchBytes).hhll = s.mem.read16 (s.pc + 2)

/-- R67: a store over the next instruction's first two bytes is what the next fetch reads. -/
def Obligations.StoreSeenByNextFetch : Prop :=
  ∀ (x : Reg) (s : State), ∃ t, exec (.stm x (s.pc + 4)) s = .next t ∧
    t.fetchBytes.b0.toNat = (s.reg x).toNat % 256 ∧ t.fetchBytes.b1.toNat = (s.reg x).toNat / 256 ∧
    t.fetchBytes.b2 = s.mem.read8 (s.pc + 6) ∧ t.fetchBytes.b3 = s.mem.read8 (s.pc + 7)

/-! ## The engine -/

/-- R89: when the bytes at `pc` decode to a well-formed instruction and no fault is latched, the step is that instruction's
execution; nothing else is added around it. -/
def Obligations.StepRunsDecodedInstruction : Prop :=
  ∀ (s : State) (i : Instr), s.fault = none → decode s.fetchBytes = .instr i → i.WellFormed → step s = exec i s

/-- R302: a step that fetches an unmapped opcode sets the fault record and changes nothing else. -/
def Obligations.UnmappedOpcodeFaults : Prop :=
  ∀ s : State, s.fault = none → opcodeUnmapped (s.mem.read8 s.pc) = true →
    step s = .next { s with fault := some ⟨.unmappedOpcode, s.pc, s.fetchBytes⟩ }

/-- R305: a step in the faulted state changes nothing (no command goes out either, as `history` is in the state); the driver
reads the record; the state is no successful end of a run; the driver's reset clears the record. -/
def Obligations.FaultedStepChangesNothing : Prop :=
  ∀ (s : State) (r : FaultRecord), s.fault = some r →
    step s = .next s ∧ Driver.faultStatus s = some r ∧ runResult (.next s) = .fault (.engineStopped r) ∧
    ∀ (ur : Reg → Word) (um : Nat → Byte) (rom : List Byte), rom.length ≤ 65536 →
      ∃ t, Driver.reset ur um rom s = .next t ∧ t.fault = none

/-- R29, R301, R306: a step from a running state completes and counts one, with no fault, or sets a fault record of the
instruction at `pc` and changes nothing else. -/
def Obligations.StepCommitsOrFaultsPrecisely : Prop :=
  ∀ s : State, s.fault = none →
    (∃ t, step s = .next t ∧ t.fault = none ∧ t.cycleCount = s.cycleCount + 1) ∨
    (∃ code, step s = .next { s with fault := some ⟨code, s.pc, s.fetchBytes⟩ })

/-- The step keeps the invariant: canonical memory, and a latched fault record that describes the instruction at `pc`. -/
def Obligations.StepKeepsInvariant : Prop := ∀ s t : State, s.Inv → step s = .next t → t.Inv

/-- The reset state meets the invariant; so does every state the driver's reset answers, whatever the open parameters. -/
def Obligations.ResetMeetsInvariant : Prop :=
  State.reset.Inv ∧ ∀ (ur : Reg → Word) (um : Nat → Byte) (rom : List Byte) (s t : State),
    Driver.reset ur um rom s = .next t → t.Inv

/-- R303: a step that fetches one of the nine division and remainder instructions, when its divisor (HHLL or RY) is 0, sets
the fault record with the instruction's address and its four bytes, and changes nothing else; no other instruction touches the
fault status. -/
def Obligations.DivideByZeroFaults : Prop :=
  (∀ (x y z : Reg) (hhll : Word) (s : State), s.fault = none →
    (hhll = 0 → ∀ i ∈ [Instr.divi x hhll, .modi x hhll, .remi x hhll], decode s.fetchBytes = .instr i →
      step s = .next { s with fault := some ⟨.divideByZero, s.pc, s.fetchBytes⟩ }) ∧
    (s.reg y = 0 → ∀ i ∈ [Instr.div2 x y, .div3 x y z, .mod2 x y, .mod3 x y z, .rem2 x y, .rem3 x y z],
      decode s.fetchBytes = .instr i →
      step s = .next { s with fault := some ⟨.divideByZero, s.pc, s.fetchBytes⟩ })) ∧
  ∀ (i : Instr) (s t : State), divisorOf i s = none → exec i s = .next t → t.fault = s.fault

/-- R303, R304: an executed instruction changes the fault status only if it is one of the nine and its divisor is 0. -/
def Obligations.OnlyDivisionByZeroFaults : Prop :=
  ∀ (i : Instr) (s t : State), exec i s = .next t → t.fault ≠ s.fault → divisorOf i s = some 0

/-- R34: what the driver's reset leaves, for every `unset_reg`, `unset_mem` and ROM image that fits. -/
def Obligations.DriverResetState : Prop :=
  ∀ (ur : Reg → Word) (um : Nat → Byte) (rom : List Byte) (s : State), rom.length ≤ 65536 →
    ∃ t, Driver.reset ur um rom s = .next t ∧
      t.pc = 0x0000 ∧ t.sp = 0xFDF0 ∧ t.flags = ⟨false, false, false, false⟩ ∧ (∀ i : Reg, t.reg i = ur i) ∧
      (∀ (a : Word) (b : Byte), rom[a.toNat]? = some b → t.mem.read8 a = b) ∧
      (∀ a : Word, rom.length ≤ a.toNat → t.mem.read8 a = um a.toNat) ∧
      t.cycleCount = 0 ∧ t.fault = none

/-- The model's State.reset is the driver's reset with no ROM image and with 0 for every open cell and register (log entries 1
and 2: the model's choice), a payload longer than the memory is refused (R331, log entry 11), and reset issues no command and
keeps the history (R330, log entry 5). -/
def Obligations.ResetIsDriverReset : Prop :=
  Driver.reset (fun _ => 0) (fun _ => 0) [] State.reset = .next State.reset ∧
  (∀ (ur : Reg → Word) (um : Nat → Byte) (rom : List Byte) (s : State), 65536 < rom.length →
    Driver.reset ur um rom s = .refused (.romImageTooLong rom.length)) ∧
  ∀ (ur : Reg → Word) (um : Nat → Byte) (rom : List Byte) (s t : State),
    Driver.reset ur um rom s = .next t → t.history = s.history

/-! ## Whole-machine rules: who writes what -/

/-- R23: an instruction changes no general register but those R23 gives it. -/
def Obligations.OnlyListedRegistersWritten : Prop :=
  ∀ (i : Instr) (s t : State), exec i s = .next t → ∀ j : Reg, j ∉ destRegs i → t.reg j = s.reg j

/-- R27: an instruction changes no flag but those R27's table gives it. -/
def Obligations.OnlyListedFlagsWritten : Prop :=
  ∀ (i : Instr) (s t : State), exec i s = .next t →
    ((flagsWritten i).c = false → t.flags.c = s.flags.c) ∧ ((flagsWritten i).z = false → t.flags.z = s.flags.z) ∧
    ((flagsWritten i).o = false → t.flags.o = s.flags.o) ∧ ((flagsWritten i).n = false → t.flags.n = s.flags.n)

/-- R26: `sp` is written by the instructions R26 lists and by nothing else. -/
def Obligations.OnlyListedInstructionsWriteSp : Prop :=
  ∀ (i : Instr) (s t : State), exec i s = .next t → writesSp i = false → t.sp = s.sp

/-- R60: an instruction changes no byte of memory outside the bytes R60 gives it. -/
def Obligations.OnlyListedBytesStored : Prop :=
  ∀ (i : Instr) (s t : State), exec i s = .next t →
    ∀ a : Word, ¬ InSpan a (storeSpan i s) → t.mem.read8 a = s.mem.read8 a

/-- R40, R42: an instruction issues exactly the commands R40 gives it, in order, after those issued before. -/
def Obligations.CommandsIssuedInOrder : Prop :=
  ∀ (i : Instr) (s t : State), exec i s = .next t → t.history = s.history ++ commandsOf i s

/-- R24, R140: only VBLNK and the control instructions can leave `pc` anywhere but at `pc + 4`, the faulting division apart. -/
def Obligations.OnlyTransfersLeaveSequence : Prop :=
  ∀ (i : Instr) (s t : State), exec i s = .next t → mayTransfer i = false → divisorOf i s ≠ some 0 → t.pc = s.pc + 4

/-- R29: no instruction reads `cycle_count`: from a state with another count, the same happens, and only the count differs. -/
def Obligations.CycleCountNeverRead : Prop :=
  ∀ (i : Instr) (s t : State) (k : Nat), exec i s = .next t →
    ∃ k', exec i { s with cycleCount := k } = .next { t with cycleCount := k' }

/-- R27: PUSHF is the one instruction that reads the flags: from a state with other flags, any other instruction does the same,
and only the flags can differ afterwards. -/
def Obligations.FlagsReadOnlyByPushf : Prop :=
  ∀ (i : Instr) (s t : State) (f : Flags), i ≠ .pushf → exec i s = .next t →
    ∃ f', exec i { s with flags := f } = .next { t with flags := f' }

/-! ## System and peripheral commands -/

/-- R101. -/
def Obligations.NopOnlyAdvances : Prop :=
  DecodesAs 0x00 (fun _ => .nop) ∧
  ∀ s : State, Completes .nop s fun t => JumpOnly (s.pc + 4) s t

/-- R102, R104, R105, R109 to R115: CLS, BGC, SPR, FLIP, SND0 to SND3, SNP and SNG issue their commands and advance; nothing
else changes. -/
def Obligations.PeripheralCommandsIssued : Prop :=
  DecodesAs 0x01 (fun _ => .cls) ∧ DecodesAs 0x03 (fun f => .bgc f.n) ∧ DecodesAs 0x04 (fun f => .spr f.ll f.hh) ∧
  DecodesAs 0x08 (fun f => .flip f.hflip f.vflip) ∧ DecodesAs 0x09 (fun _ => .snd0) ∧
  DecodesAs 0x0A (fun f => .snd1 f.hhll) ∧ DecodesAs 0x0B (fun f => .snd2 f.hhll) ∧ DecodesAs 0x0C (fun f => .snd3 f.hhll) ∧
  DecodesAs 0x0D (fun f => .snp f.x f.hhll) ∧ DecodesAs 0x0E (fun f => .sng f.ad f.vtsr) ∧
  ∀ (n : Nibble) (w h ad : Byte) (fh : BitVec 7) (fv : BitVec 1) (x : Reg) (hhll : Word) (s : State),
    ∀ p ∈ [ (Instr.cls, [PeriphEvent.clearForeground, .clearBackground]), (.bgc n, [.setBackgroundIndex n])
          , (.spr w h, [.setSpriteDimensions w h]), (.flip fh fv, [.setFlip (decide (fh.toNat ≠ 0)) (decide (fv.toNat ≠ 0))])
          , (.snd0, [.stop]), (.snd1 hhll, [.playFixedToneA hhll]), (.snd2 hhll, [.playFixedToneB hhll])
          , (.snd3 hhll, [.playFixedToneC hhll]), (.snp x hhll, [.playTone (s.reg x) hhll])
          , (.sng ad hhll, [.setupEnvelope ad hhll]) ],
      exec p.1 s = .next { s with pc := s.pc + 4, cycleCount := s.cycleCount + 1, history := s.history ++ p.2 }

/-- R92, R103: VBLNK asks once; it advances by 4 if the answer is true and stays at its own address if it is false, and either
way the step counts. How the answer is taken (`answers`, `draws`) is the model's choice, log entry 3. -/
def Obligations.VblnkWaitsForVblank : Prop :=
  DecodesAs 0x02 (fun _ => .vblnk) ∧
  ∀ s : State, Completes .vblnk s fun t =>
    (s.answer.vblank = true → t.pc = s.pc + 4) ∧ (s.answer.vblank = false → t.pc = s.pc) ∧
    t.cycleCount = s.cycleCount + 1 ∧ t.fault = s.fault ∧ t.history = s.history ++ [.isVblank s.answer.vblank] ∧
    t.answers = s.answers.tail ∧ t.draws = s.draws + 1 ∧
    RegsKept s t ∧ t.sp = s.sp ∧ t.flags = s.flags ∧ MemKept s t

/-- R106, R107: DRW issues its draw with the raw registers and writes C with the collision answer. How the answer is taken
(`answers`, `draws`) is the model's choice, log entry 3. -/
def Obligations.DrwWritesCollisionToCarry : Prop :=
  DecodesAs 0x05 (fun f => .drwImm f.x f.y f.hhll) ∧ DecodesAs 0x06 (fun f => .drwReg f.x f.y f.n) ∧
  ∀ (x y z : Reg) (hhll : Word) (s : State),
    ∀ p ∈ [ (Instr.drwImm x y hhll, PeriphEvent.drawSpriteFromAddress hhll (s.reg x) (s.reg y) s.answer.collision)
          , (.drwReg x y z, .drawSpriteFromRegisterPointer (s.reg z) (s.reg x) (s.reg y) s.answer.collision) ],
      Completes p.1 s fun t =>
        t.history = s.history ++ [p.2] ∧ t.answers = s.answers.tail ∧ t.draws = s.draws + 1 ∧
        t.flags.c = s.answer.collision ∧ t.flags.z = s.flags.z ∧ t.flags.o = s.flags.o ∧ t.flags.n = s.flags.n ∧
        RegsKept s t ∧ t.sp = s.sp ∧ MemKept s t ∧ Advanced (s.pc + 4) s t

/-- R108: RND writes a value of `[0, HHLL]`, and every value of that range is what some answer gives. How the answer is taken and
brought into the range is the model's choice, log entries 3 and 4. -/
def Obligations.RndDrawsWithinBound : Prop :=
  DecodesAs 0x07 (fun f => .rnd f.x f.hhll) ∧
  ∀ (x : Reg) (hhll : Word) (s : State),
    (Completes (.rnd x hhll) s fun t =>
      (t.reg x).toNat ≤ hhll.toNat ∧ (∀ j : Reg, j ≠ x → t.reg j = s.reg j) ∧ t.sp = s.sp ∧ t.flags = s.flags ∧
      MemKept s t ∧ t.history = s.history ∧ t.answers = s.answers.tail ∧ t.draws = s.draws + 1 ∧
      Advanced (s.pc + 4) s t) ∧
    ∀ v : Word, v.toNat ≤ hhll.toNat → ∃ a : EnvAnswer,
      Completes (.rnd x hhll) { s with answers := a :: s.answers } fun t => t.reg x = v

/-! ## Control transfer -/

/-- R141, R146: JMP goes to HHLL or to the value of RX, from every `pc`; nothing else changes. -/
def Obligations.JmpReachesTarget : Prop :=
  DecodesAs 0x10 (fun f => .jmp f.hhll) ∧ DecodesAs 0x16 (fun f => .jmpReg f.x) ∧
  ∀ (x : Reg) (hhll : Word) (s : State),
    Completes (.jmp hhll) s (JumpOnly hhll s) ∧ Completes (.jmpReg x) s (JumpOnly (s.reg x) s)

/-- R142, R143: Jx is taken exactly when its field is not 0, JME exactly when the two registers are equal; no flag is read or
written. -/
def Obligations.ConditionalJumps : Prop :=
  DecodesAs 0x12 (fun f => .jx f.x f.hhll) ∧ DecodesAs 0x13 (fun f => .jme f.x f.y f.hhll) ∧
  ∀ (k : Nibble) (x y : Reg) (hhll : Word) (s : State),
    Completes (.jx k hhll) s (JumpOnly (if k.toNat = 0 then s.pc + 4 else hhll) s) ∧
    Completes (.jme x y hhll) s (JumpOnly (if s.reg x = s.reg y then hhll else s.pc + 4) s)

/-- R144, R147, R148: the three calls push `pc + 4` and go to their target; Cx with a field of 0 only advances. -/
def Obligations.CallsPushReturnAddress : Prop :=
  DecodesAs 0x14 (fun f => .call f.hhll) ∧ DecodesAs 0x17 (fun f => .cx f.x f.hhll) ∧ DecodesAs 0x18 (fun f => .callReg f.x) ∧
  ∀ (k : Nibble) (x : Reg) (hhll : Word) (s : State),
    Completes (.call hhll) s (Called hhll s) ∧
    Completes (.callReg x) s (Called (s.reg x) s) ∧
    (k.toNat ≠ 0 → Completes (.cx k hhll) s (Called hhll s)) ∧
    (k.toNat = 0 → Completes (.cx k hhll) s (JumpOnly (s.pc + 4) s))

/-- R145: RET takes 2 from `sp` and goes to the word there; memory keeps the word. -/
def Obligations.RetPopsTarget : Prop :=
  DecodesAs 0x15 (fun _ => .ret) ∧
  ∀ s : State, Completes .ret s fun t =>
    t.sp = s.sp - 2 ∧ t.pc.toNat = (s.mem.read8 (s.sp - 1)).toNat * 256 + (s.mem.read8 (s.sp - 2)).toNat ∧
    t.cycleCount = s.cycleCount + 1 ∧ t.fault = s.fault ∧ RegsKept s t ∧ t.flags = s.flags ∧ MemKept s t ∧ PortKept s t

/-- R145 (the source's example): CALL and then RET leave `pc` at the instruction after the CALL and `sp` as it was. -/
def Obligations.CallThenRetReturns : Prop :=
  ∀ (hhll : Word) (s : State), ∃ t u, exec (.call hhll) s = .next t ∧ exec .ret t = .next u ∧
    u.pc = s.pc + 4 ∧ u.sp = s.sp ∧ RegsKept s u ∧ u.flags = s.flags ∧ u.cycleCount = s.cycleCount + 2

/-! ## Loads, stores and moves -/

/-- R171, R172, R175: LDI writes HHLL to RX or to `sp`, MOV copies RY to RX; nothing else changes, no flag, no memory. -/
def Obligations.ImmediateLoadsAndMove : Prop :=
  DecodesAs 0x20 (fun f => .ldi f.x f.hhll) ∧ DecodesAs 0x21 (fun f => .ldiSp f.hhll) ∧ DecodesAs 0x24 (fun f => .mov f.x f.y) ∧
  ∀ (x y : Reg) (hhll : Word) (s : State),
    (Completes (.ldi x hhll) s fun t => RegOnly x hhll s t ∧ t.flags = s.flags) ∧
    (Completes (.mov x y) s fun t => RegOnly x (s.reg y) s t ∧ t.flags = s.flags) ∧
    (Completes (.ldiSp hhll) s fun t => t.sp = hhll ∧ RegsKept s t ∧ t.flags = s.flags ∧ MemKept s t ∧ PortKept s t ∧
      Advanced (s.pc + 4) s t)

/-- R173, R174: LDM writes to RX the little-endian word at HHLL, or at the old value of RY; nothing else changes. -/
def Obligations.LdmLoadsWord : Prop :=
  DecodesAs 0x22 (fun f => .ldm f.x f.hhll) ∧ DecodesAs 0x23 (fun f => .ldmReg f.x f.y) ∧
  ∀ (x y : Reg) (hhll : Word) (s : State),
    ∀ p ∈ [(Instr.ldm x hhll, absAddr hhll), (.ldmReg x y, regAddr y s)],
      Completes p.1 s fun t => ∃ v : Word,
        v.toNat = (s.mem.read8 (p.2 + 1)).toNat * 256 + (s.mem.read8 p.2).toNat ∧ RegOnly x v s t ∧ t.flags = s.flags

/-- R176, R177: STM stores RX at HHLL, or at RY, low byte first; nothing else changes. -/
def Obligations.StmStoresWord : Prop :=
  DecodesAs 0x30 (fun f => .stm f.x f.hhll) ∧ DecodesAs 0x31 (fun f => .stmReg f.x f.y) ∧
  ∀ (x y : Reg) (hhll : Word) (s : State),
    ∀ p ∈ [(Instr.stm x hhll, absAddr hhll), (.stmReg x y, regAddr y s)],
      Completes p.1 s fun t => WordStored p.2 (s.reg x) s t ∧ RegsKept s t ∧ t.sp = s.sp ∧ t.flags = s.flags ∧ PortKept s t ∧
        Advanced (s.pc + 4) s t

/-! ## Arithmetic -/

/-- R191, R196, R197, R198: the sum modulo 65536 in the destination, and the four flags of the exact sum. -/
def Obligations.AdditionWritesSumAndFlags : Prop :=
  DecodesAs 0x40 (fun f => .addi f.x f.hhll) ∧ DecodesAs 0x41 (fun f => .add2 f.x f.y) ∧
  DecodesAs 0x42 (fun f => .add3 f.x f.y f.n) ∧
  ∀ (x y z : Reg) (hhll : Word) (s : State),
    ∀ p ∈ [(Instr.addi x hhll, x, hhll), (.add2 x y, x, s.reg y), (.add3 x y z, z, s.reg y)],
      Completes p.1 s fun t => ∃ r : Word, r.toNat = ((s.reg x).toNat + p.2.2.toNat) % 65536 ∧
        RegOnly p.2.1 r s t ∧ AddFlags (s.reg x) p.2.2 t.flags

/-- R192, R200, R201, R202: the difference modulo 65536 in the destination, and the four flags of the exact difference. -/
def Obligations.SubtractionWritesDifferenceAndFlags : Prop :=
  DecodesAs 0x50 (fun f => .subi f.x f.hhll) ∧ DecodesAs 0x51 (fun f => .sub2 f.x f.y) ∧
  DecodesAs 0x52 (fun f => .sub3 f.x f.y f.n) ∧
  ∀ (x y z : Reg) (hhll : Word) (s : State),
    ∀ p ∈ [(Instr.subi x hhll, x, hhll), (.sub2 x y, x, s.reg y), (.sub3 x y z, z, s.reg y)],
      Completes p.1 s fun t => ∃ r : Word, r.toNat = ((s.reg x).toNat + 65536 - p.2.2.toNat) % 65536 ∧
        RegOnly p.2.1 r s t ∧ SubFlags (s.reg x) p.2.2 t.flags

/-- R203, R204: CMPI and CMP write the flags of the difference, and no register. -/
def Obligations.ComparisonWritesFlagsOnly : Prop :=
  DecodesAs 0x53 (fun f => .cmpi f.x f.hhll) ∧ DecodesAs 0x54 (fun f => .cmp f.x f.y) ∧
  ∀ (x y : Reg) (hhll : Word) (s : State),
    (Completes (.cmpi x hhll) s fun t => FlagsOnly s t ∧ SubFlags (s.reg x) hhll t.flags) ∧
    (Completes (.cmp x y) s fun t => FlagsOnly s t ∧ SubFlags (s.reg x) (s.reg y) t.flags)

/-- R231: after ADD and SUB the O flag says that the signed sum, or difference, is outside the signed 16-bit range. -/
def Obligations.OverflowIsSignedOverflow : Prop :=
  ∀ (x y : Reg) (s : State),
    (Completes (.add2 x y) s fun t => (t.flags.o = true ↔
      ((s.reg x).toInt + (s.reg y).toInt < -32768 ∨ 32767 < (s.reg x).toInt + (s.reg y).toInt))) ∧
    (Completes (.sub2 x y) s fun t => (t.flags.o = true ↔
      ((s.reg x).toInt - (s.reg y).toInt < -32768 ∨ 32767 < (s.reg x).toInt - (s.reg y).toInt)))

/-- R193, R210, R211, R212: the low 16 bits of the product in the destination; C, Z and N of the exact product; O kept. -/
def Obligations.MultiplicationWritesProductAndFlags : Prop :=
  DecodesAs 0x90 (fun f => .muli f.x f.hhll) ∧ DecodesAs 0x91 (fun f => .mul2 f.x f.y) ∧
  DecodesAs 0x92 (fun f => .mul3 f.x f.y f.n) ∧
  ∀ (x y z : Reg) (hhll : Word) (s : State),
    ∀ p ∈ [(Instr.muli x hhll, x, hhll), (.mul2 x y, x, s.reg y), (.mul3 x y z, z, s.reg y)],
      Completes p.1 s fun t => ∃ r : Word, r.toNat = (s.reg x).toNat * p.2.2.toNat % 65536 ∧
        RegOnly p.2.1 r s t ∧ MulFlags (s.reg x) p.2.2 s.flags t.flags

/-- R220 to R223: with a divisor other than 0, the unsigned quotient in the destination; C says the remainder is not 0; with
the divisor 0, the fault and nothing else. -/
def Obligations.DivisionWritesQuotientAndFlags : Prop :=
  DecodesAs 0xA0 (fun f => .divi f.x f.hhll) ∧ DecodesAs 0xA1 (fun f => .div2 f.x f.y) ∧
  DecodesAs 0xA2 (fun f => .div3 f.x f.y f.n) ∧
  ∀ (x y z : Reg) (hhll : Word) (s : State),
    ∀ p ∈ [(Instr.divi x hhll, x, hhll), (.div2 x y, x, s.reg y), (.div3 x y z, z, s.reg y)],
      (p.2.2 = 0 → ∃ f : FaultRecord, f.code = .divideByZero ∧ f.pc = s.pc ∧ exec p.1 s = .next { s with fault := some f }) ∧
      (p.2.2 ≠ 0 → Completes p.1 s fun t => ∃ r : Word, r.toNat = (s.reg x).toNat / p.2.2.toNat ∧
        RegOnly p.2.1 r s t ∧ DivFlags (s.reg x) p.2.2 s.flags t.flags)

/-- R224 to R230: with a divisor other than 0, the unsigned remainder in the destination; Z and N of it; C and O kept; with the
divisor 0, the fault and nothing else. REM is MOD. -/
def Obligations.RemainderWritesRemainderAndFlags : Prop :=
  DecodesAs 0xA3 (fun f => .modi f.x f.hhll) ∧ DecodesAs 0xA4 (fun f => .mod2 f.x f.y) ∧
  DecodesAs 0xA5 (fun f => .mod3 f.x f.y f.n) ∧ DecodesAs 0xA6 (fun f => .remi f.x f.hhll) ∧
  DecodesAs 0xA7 (fun f => .rem2 f.x f.y) ∧ DecodesAs 0xA8 (fun f => .rem3 f.x f.y f.n) ∧
  ∀ (x y z : Reg) (hhll : Word) (s : State),
    ∀ p ∈ [ (Instr.modi x hhll, x, hhll), (.mod2 x y, x, s.reg y), (.mod3 x y z, z, s.reg y)
          , (.remi x hhll, x, hhll), (.rem2 x y, x, s.reg y), (.rem3 x y z, z, s.reg y) ],
      (p.2.2 = 0 → ∃ f : FaultRecord, f.code = .divideByZero ∧ f.pc = s.pc ∧ exec p.1 s = .next { s with fault := some f }) ∧
      (p.2.2 ≠ 0 → Completes p.1 s fun t => ∃ r : Word, r.toNat = (s.reg x).toNat % p.2.2.toNat ∧
        RegOnly p.2.1 r s t ∧ ZnFlags r.toNat s.flags t.flags)

/-! ## Logic and shifts -/

/-- R241 to R243, R246 to R251: the bitwise results, bit by bit, in the destination; Z and N of the result. -/
def Obligations.LogicWritesBitsAndFlags : Prop :=
  DecodesAs 0x60 (fun f => .andi f.x f.hhll) ∧ DecodesAs 0x61 (fun f => .and2 f.x f.y) ∧
  DecodesAs 0x62 (fun f => .and3 f.x f.y f.n) ∧ DecodesAs 0x70 (fun f => .ori f.x f.hhll) ∧
  DecodesAs 0x71 (fun f => .or2 f.x f.y) ∧ DecodesAs 0x72 (fun f => .or3 f.x f.y f.n) ∧
  DecodesAs 0x80 (fun f => .xori f.x f.hhll) ∧ DecodesAs 0x81 (fun f => .xor2 f.x f.y) ∧
  DecodesAs 0x82 (fun f => .xor3 f.x f.y f.n) ∧
  ∀ (x y z : Reg) (hhll : Word) (s : State),
    ∀ p ∈ [ (Instr.andi x hhll, x, hhll, and), (.and2 x y, x, s.reg y, and), (.and3 x y z, z, s.reg y, and)
          , (.ori x hhll, x, hhll, or), (.or2 x y, x, s.reg y, or), (.or3 x y z, z, s.reg y, or)
          , (.xori x hhll, x, hhll, xor), (.xor2 x y, x, s.reg y, xor), (.xor3 x y z, z, s.reg y, xor) ],
      Completes p.1 s fun t => ∃ r : Word,
        (∀ k : Nat, r.getLsbD k = p.2.2.2 ((s.reg x).getLsbD k) (p.2.2.1.getLsbD k)) ∧
        RegOnly p.2.1 r s t ∧ ZnFlags r.toNat s.flags t.flags

/-- R244, R245: TSTI and TST write Z and N of the bitwise AND, and no register. -/
def Obligations.TestWritesFlagsOnly : Prop :=
  DecodesAs 0x63 (fun f => .tsti f.x f.hhll) ∧ DecodesAs 0x64 (fun f => .tst f.x f.y) ∧
  ∀ (x y : Reg) (hhll : Word) (s : State),
    ∀ p ∈ [(Instr.tsti x hhll, hhll), (.tst x y, s.reg y)],
      Completes p.1 s fun t => ∃ r : Word, (∀ k : Nat, r.getLsbD k = ((s.reg x).getLsbD k && p.2.getLsbD k)) ∧
        FlagsOnly s t ∧ ZnFlags r.toNat s.flags t.flags

/-- R254, R255, R258: SHL multiplies by a power of two modulo 65536, the register count unmasked; so the result is 0 from a
count of 16 on. -/
def Obligations.ShiftLeft : Prop :=
  DecodesAs 0xB0 (fun f => .shlN f.x f.n) ∧ DecodesAs 0xB3 (fun f => .shlReg f.x f.y) ∧
  ∀ (x y : Reg) (n : Nibble) (s : State),
    ∀ p ∈ [(Instr.shlN x n, n.toNat), (.shlReg x y, (s.reg y).toNat)],
      Completes p.1 s fun t => ∃ r : Word, r.toNat = (s.reg x).toNat * 2 ^ p.2 % 65536 ∧ (16 ≤ p.2 → r = 0) ∧
        RegOnly x r s t ∧ ZnFlags r.toNat s.flags t.flags

/-- R254, R256, R259: SHR divides the pattern by a power of two; the result is 0 from a count of 16 on. -/
def Obligations.ShiftRightLogical : Prop :=
  DecodesAs 0xB1 (fun f => .shrN f.x f.n) ∧ DecodesAs 0xB4 (fun f => .shrReg f.x f.y) ∧
  ∀ (x y : Reg) (n : Nibble) (s : State),
    ∀ p ∈ [(Instr.shrN x n, n.toNat), (.shrReg x y, (s.reg y).toNat)],
      Completes p.1 s fun t => ∃ r : Word, r.toNat = (s.reg x).toNat / 2 ^ p.2 ∧ (16 ≤ p.2 → r = 0) ∧
        RegOnly x r s t ∧ ZnFlags r.toNat s.flags t.flags

/-- R254, R257, R260: SAR divides the signed reading by a power of two, rounding down; from a count of 16 on the result is all
sign bits. -/
def Obligations.ShiftRightArithmetic : Prop :=
  DecodesAs 0xB2 (fun f => .sarN f.x f.n) ∧ DecodesAs 0xB5 (fun f => .sarReg f.x f.y) ∧
  ∀ (x y : Reg) (n : Nibble) (s : State),
    ∀ p ∈ [(Instr.sarN x n, n.toNat), (.sarReg x y, (s.reg y).toNat)],
      Completes p.1 s fun t => ∃ r : Word, r.toInt = (s.reg x).toInt / 2 ^ p.2 ∧
        (16 ≤ p.2 → r = if (s.reg x).msb then 0xFFFF else 0) ∧
        RegOnly x r s t ∧ ZnFlags r.toNat s.flags t.flags

/-! ## The stack -/

/-- R271, R275: PUSH stores RX, PUSHF the packed flags, at `sp`, and `sp` grows by 2; nothing else changes. -/
def Obligations.PushStoresAtSp : Prop :=
  DecodesAs 0xC0 (fun f => .push f.x) ∧ DecodesAs 0xC4 (fun _ => .pushf) ∧
  ∀ (x : Reg) (s : State),
    (Completes (.push x) s fun t => WordStored s.sp (s.reg x) s t ∧ t.sp = s.sp + 2 ∧ RegsKept s t ∧ t.flags = s.flags ∧
      PortKept s t ∧ Advanced (s.pc + 4) s t) ∧
    (Completes .pushf s fun t => ∃ w : Word,
      w.toNat = 2 * s.flags.c.toNat + 4 * s.flags.z.toNat + 64 * s.flags.o.toNat + 128 * s.flags.n.toNat ∧
      WordStored s.sp w s t ∧ t.sp = s.sp + 2 ∧ RegsKept s t ∧ t.flags = s.flags ∧
      PortKept s t ∧ Advanced (s.pc + 4) s t)

/-- R272, R276: POP and POPF take 2 from `sp` and read the word there, into RX or into the four flags; memory is as before. -/
def Obligations.PopReadsBelowSp : Prop :=
  DecodesAs 0xC1 (fun f => .pop f.x) ∧ DecodesAs 0xC5 (fun _ => .popf) ∧
  ∀ (x : Reg) (s : State), ∃ w : Word,
    w.toNat = (s.mem.read8 (s.sp - 1)).toNat * 256 + (s.mem.read8 (s.sp - 2)).toNat ∧
    (Completes (.pop x) s fun t => RegWritten x w s t ∧ t.sp = s.sp - 2 ∧ t.flags = s.flags ∧ MemKept s t ∧ PortKept s t ∧
      Advanced (s.pc + 4) s t) ∧
    (Completes .popf s fun t => t.flags.c = w.getLsbD 1 ∧ t.flags.z = w.getLsbD 2 ∧ t.flags.o = w.getLsbD 6 ∧
      t.flags.n = w.getLsbD 7 ∧ RegsKept s t ∧ t.sp = s.sp - 2 ∧ MemKept s t ∧ PortKept s t ∧ Advanced (s.pc + 4) s t)

/-- R273: PUSHALL stores R0 at the old `sp` and R15 at old `sp` + 30, and `sp` grows by 32; no byte outside the 32 changes. -/
def Obligations.PushallStoresAllRegisters : Prop :=
  DecodesAs 0xC2 (fun _ => .pushall) ∧
  ∀ s : State, Completes .pushall s fun t =>
    (∀ i : Reg, t.mem.read16 (s.sp + 2 * i.setWidth 16) = s.reg i) ∧
    (∀ a : Word, 32 ≤ (a - s.sp).toNat → t.mem.read8 a = s.mem.read8 a) ∧
    t.sp = s.sp + 32 ∧ RegsKept s t ∧ t.flags = s.flags ∧ PortKept s t ∧ Advanced (s.pc + 4) s t

/-- R274: POPALL reads R15 first, from just below `sp`, and R0 from `sp` - 32; `sp` shrinks by 32; memory is as before. -/
def Obligations.PopallLoadsAllRegisters : Prop :=
  DecodesAs 0xC3 (fun _ => .popall) ∧
  ∀ s : State, Completes .popall s fun t =>
    (∀ i : Reg, t.reg i = s.mem.read16 (s.sp - 32 + 2 * i.setWidth 16)) ∧
    t.sp = s.sp - 32 ∧ t.flags = s.flags ∧ MemKept s t ∧ PortKept s t ∧ Advanced (s.pc + 4) s t

/-- R274 (the source's example): after PUSHALL, whatever then becomes of the registers, the flags and `pc`, POPALL restores
every register and `sp`, as long as `sp` and memory are as PUSHALL left them. -/
def Obligations.PopallUndoesPushall : Prop :=
  ∀ s t u : State, exec .pushall s = .next t → u.sp = t.sp → (∀ a : Word, u.mem.read8 a = t.mem.read8 a) →
    ∃ v, exec .popall u = .next v ∧ (∀ i : Reg, v.reg i = s.reg i) ∧ v.sp = s.sp

/-- R276 (its example): a PUSHF followed by a POPF leaves the flags and `sp` unchanged. -/
def Obligations.PopfUndoesPushf : Prop :=
  ∀ s : State, ∃ t u, exec .pushf s = .next t ∧ exec .popf t = .next u ∧ u.flags = s.flags ∧ u.sp = s.sp ∧ RegsKept s u

/-! ## The driver port -/

/-- R22, R43: the driver steps, reads a register signed without changing anything, writes a register, reads a byte, writes a
word, and reads `pc`, `sp`, the flags and the fault status. -/
def Obligations.DriverPortOperations : Prop :=
  ∀ (s : State) (i : Reg) (a v : Word),
    (Driver.readRegisterSigned s i = if 0x8000 ≤ (s.reg i).toNat then ((s.reg i).toNat : Int) - 65536 else (s.reg i).toNat) ∧
    (Driver.step s).1 = step s ∧ (∀ t, step s = .next t → (Driver.step s).2 = t.cycleCount) ∧
    RegWritten i v s (Driver.writeRegister s i v) ∧ (∃ rs, Driver.writeRegister s i v = { s with regs := rs }) ∧
    Driver.readMemory s a = s.mem.read8 a ∧
    WordStored a v s (Driver.writeMemory s a v) ∧ (∃ m, Driver.writeMemory s a v = { s with mem := m }) ∧
    Driver.programCounter s = s.pc ∧ Driver.stackPointer s = s.sp ∧ Driver.flags s = s.flags ∧
    Driver.faultStatus s = s.fault
end

