-- ==== Sys2Proof/Laws/Decode.lean ====
section
/-!
SUPPORT. The small laws of the decoder's bit fields, and the opcode table as data.
-/
namespace Sys2Proof

@[simp] theorem loNibble_byteOf (h l : Nibble) : loNibble (byteOf h l) = l := by
  apply BitVec.eq_of_getLsbD_eq
  intro i hi
  have e := BitVec.getLsbD_append (x := h) (y := l) (i := i)
  simpa [loNibble, byteOf, hi] using e

@[simp] theorem hiNibble_byteOf (h l : Nibble) : hiNibble (byteOf h l) = h := by
  apply BitVec.eq_of_getLsbD_eq
  intro i hi
  have e := BitVec.getLsbD_append (x := h) (y := l) (i := 4 + i)
  simpa [hiNibble, byteOf, hi] using e

@[simp] theorem wordOf_loByte_hiByte (w : Word) : wordOf (loByte w) (hiByte w) = w := by
  apply BitVec.eq_of_getLsbD_eq
  intro i hi
  simp only [wordOf, loByte, hiByte, BitVec.getLsbD_append, BitVec.getLsbD_extractLsb']
  split
  · simp [*]
  · next h => simp [show i - 8 < 8 by omega, show 8 + (i - 8) = i by omega]

@[simp] theorem loByte_wordOf (l h : Byte) : loByte (wordOf l h) = l := by
  apply BitVec.eq_of_getLsbD_eq
  intro i hi
  have e := BitVec.getLsbD_append (x := h) (y := l) (i := i)
  simpa [loByte, wordOf, hi] using e

@[simp] theorem hiByte_wordOf (l h : Byte) : hiByte (wordOf l h) = h := by
  apply BitVec.eq_of_getLsbD_eq
  intro i hi
  have e := BitVec.getLsbD_append (x := h) (y := l) (i := 8 + i)
  simpa [hiByte, wordOf, hi] using e

theorem loByte_toNat (w : Word) : (loByte w).toNat = w.toNat % 256 := by
  simp [loByte, BitVec.extractLsb'_toNat]

theorem hiByte_toNat (w : Word) : (hiByte w).toNat = w.toNat / 256 := by
  have := w.isLt
  simp [hiByte, BitVec.extractLsb'_toNat, Nat.shiftRight_eq_div_pow]
  omega

theorem wordOf_toNat (l h : Byte) : (wordOf l h).toNat = h.toNat * 256 + l.toNat := by
  have := l.isLt
  simp only [wordOf, BitVec.toNat_append]
  rw [Nat.shiftLeft_eq, Nat.mul_comm, ← Nat.two_pow_add_eq_or_of_lt this]

@[simp] theorem byteOf_zero_loNibble (b : Byte) : byteOf 0#4 (loNibble b) = b &&& 15#8 := by revert b; decide

@[simp] theorem byteOf_hiNibble_loNibble (b : Byte) : byteOf (hiNibble b) (loNibble b) = b := by revert b; decide

/-- The two flip fields cover `b3` (R72, R74). -/
theorem flipFields_join (b : Byte) : (b.extractLsb' 1 7 ++ b.extractLsb' 0 1 : BitVec 8) = b := by revert b; decide

/-- R80: no opcode byte has two rows in the table. -/
theorem opcodeTable_rows_distinct : (opcodeTable.map Prod.fst).Pairwise (· ≠ ·) := by decide

/-- R81: the table has 73 rows. -/
theorem opcodeTable_length : opcodeTable.length = 73 := by decide

/-- What a successful decoding says (R73, R80): the opcode byte has a row, and the row gives the instruction. -/
theorem decode_instr_row {b : InstrBytes} {i : Instr} (h : decode b = .instr i) :
    ∃ build, (b.b0, build) ∈ opcodeTable ∧ i = build (decodeFields b) := by
  have lookup_mem : ∀ {l : List OpcodeRow} {f}, l.lookup b.b0 = some f → (b.b0, f) ∈ l := by
    intro l f hl
    induction l with
    | nil => simp at hl
    | cons c l ih =>
      rw [List.lookup_cons] at hl
      split at hl
      · next e => simp at e hl; simp [e, ← hl]
      · exact List.mem_cons_of_mem _ (ih hl)
  unfold decode at h
  split at h
  · next f hf => cases h; exact ⟨f, lookup_mem hf, rfl⟩
  · cases h

end Sys2Proof
end

