-- ==== Sys2Proof/Laws/Flags.lean ====
section
/-!
SUPPORT. The exact results as word operations and as natural numbers: the narrowed sum, difference and product are the
wrapping ones of BitVec (R190, R231).
-/
namespace Sys2Proof.Machine

theorem addResult_eq (a b : Word) : addResult a b = a + b := by
  apply BitVec.eq_of_toNat_eq
  simp only [addResult, rawAdd, u16, BitVec.toNat_ofInt, BitVec.toNat_add]
  omega

theorem subResult_eq (a b : Word) : subResult a b = a - b := by
  apply BitVec.eq_of_toNat_eq
  have := a.isLt; have := b.isLt
  simp only [subResult, rawSub, u16, BitVec.toNat_ofInt, BitVec.toNat_sub]
  omega

theorem mulResult_eq (a b : Word) : mulResult a b = a * b := by
  apply BitVec.eq_of_toNat_eq
  simp only [mulResult, rawMul, u16, BitVec.toNat_ofInt, BitVec.toNat_mul]
  rw [← Int.natCast_mul]
  omega

theorem divResult_toNat (a b : Word) : (divResult a b).toNat = a.toNat / b.toNat := by
  have h := a.isLt
  have := Nat.div_le_self a.toNat b.toNat
  simp only [divResult, BitVec.toNat_ofNat]
  exact Nat.mod_eq_of_lt (by omega)

theorem modResult_toNat (a b : Word) : (modResult a b).toNat = a.toNat % b.toNat := by
  have h := a.isLt
  have := Nat.mod_le a.toNat b.toNat
  simp only [modResult, BitVec.toNat_ofNat]
  exact Nat.mod_eq_of_lt (by omega)

/-- The value RND writes lies in `[0, HHLL]` (R108), and a draw already there is written as it is. -/
theorem rndWithin_toNat (hhll draw : Word) : (rndWithin hhll draw).toNat = draw.toNat % (hhll.toNat + 1) := by
  have h := hhll.isLt
  have := Nat.mod_lt draw.toNat (show 0 < hhll.toNat + 1 by omega)
  simp only [rndWithin, BitVec.toNat_ofNat]
  exact Nat.mod_eq_of_lt (by omega)

/-- The sign bit as a comparison (R12). -/
theorem msb_iff (w : Word) : w.msb = true ↔ 0x8000 ≤ w.toNat := by
  simp [BitVec.msb_eq_decide]

end Sys2Proof.Machine
end

