-- ==== Sys2Proof/Laws/Memory.lean ====
section
/-!
SUPPORT. The laws of one cell: reading after writing, and that every memory operation keeps the canonical form. The wider
accesses are built from these.
-/
namespace Sys2Proof.Machine

/-! ## Reading after writing -/

theorem Memory.lookup_erase (a b : Nat) (m : Memory) :
    Memory.lookup b (Memory.erase a m) = if b = a then Memory.unlisted else Memory.lookup b m := by
  induction m with
  | nil => simp [Memory.erase, Memory.lookup]
  | cons c rest ih =>
    obtain ⟨k, v⟩ := c
    simp only [Memory.erase] at ih
    by_cases hk : k = a
    · subst hk
      simp only [Memory.erase, Memory.lookup, List.filter_cons, ne_eq, not_true_eq_false, decide_false, Bool.false_eq_true,
        if_false, ih]
      by_cases hb : k = b
      · simp [hb]
      · simp [hb, Ne.symm hb]
    · simp only [Memory.erase, List.filter_cons, ne_eq, hk, not_false_eq_true, decide_true, if_true, Memory.lookup, ih]
      by_cases hb : k = b
      · subst hb; simp [hk]
      · simp [hb]

theorem Memory.lookup_put (a b : Nat) (v : Byte) (m : Memory) :
    Memory.lookup b (Memory.put a v m) = if b = a then v else Memory.lookup b m := by
  induction m with
  | nil => simp [Memory.put, Memory.lookup, eq_comm]
  | cons c rest ih =>
    obtain ⟨k, w⟩ := c
    simp only [Memory.put]
    split
    · simp [Memory.lookup, eq_comm]
    · split
      · next hka =>
        subst hka
        by_cases hb : k = b
        · simp [Memory.lookup, hb]
        · simp [Memory.lookup, hb, Ne.symm hb]
      · next hka =>
        simp only [Memory.lookup, ih]
        by_cases hb : k = b
        · subst hb; simp [hka]
        · simp [hb]

/-- A cell reads back what was stored there, and no other cell changes; the memory need not be in canonical form. -/
theorem Memory.lookup_store (a b : Nat) (v : Byte) (m : Memory) :
    Memory.lookup b (Memory.store a v m) = if b = a then v else Memory.lookup b m := by
  unfold Memory.store
  split
  · next h => rw [Memory.lookup_erase, h]
  · exact Memory.lookup_put a b v m

/-- `MemRead(b, 1)` after `MemWrite(a, 1, v)` (R52, R53). -/
@[simp] theorem Memory.read8_write8 (m : Memory) (a b : Word) (v : Byte) :
    (m.write8 a v).read8 b = if b = a then v else m.read8 b := by
  simp [Memory.read8, Memory.write8, Memory.lookup_store, BitVec.toNat_inj]

/-! ## The canonical form -/

theorem Memory.erase_wf {m : Memory} (h : m.wf) (a : Nat) : (Memory.erase a m).wf :=
  ⟨h.1.filter _, fun c hc => h.2 c (List.mem_of_mem_filter hc)⟩

theorem Memory.mem_put {a : Nat} {v : Byte} {m : Memory} {c : Host.Cell} (h : c ∈ Memory.put a v m) :
    c = (a, v) ∨ c ∈ m := by
  induction m with
  | nil => simpa [Memory.put] using h
  | cons d rest ih =>
    obtain ⟨k, w⟩ := d
    simp only [Memory.put] at h
    split at h
    · simpa using h
    · split at h
      · rcases List.mem_cons.1 h with h | h
        · exact .inl h
        · exact .inr (List.mem_cons_of_mem _ h)
      · rcases List.mem_cons.1 h with h | h
        · exact .inr (by simp [h])
        · exact (ih h).imp id (List.mem_cons_of_mem _)

theorem Memory.put_sorted {m : Memory} (h : m.Pairwise fun c d => c.1 < d.1) (a : Nat) (v : Byte) :
    (Memory.put a v m).Pairwise fun c d => c.1 < d.1 := by
  induction m with
  | nil => simp [Memory.put]
  | cons d rest ih =>
    obtain ⟨k, w⟩ := d
    have hk := List.pairwise_cons.1 h
    simp only [Memory.put]
    split
    · next hlt =>
      refine List.pairwise_cons.2 ⟨fun c hc => ?_, h⟩
      rcases List.mem_cons.1 hc with rfl | hc
      · exact hlt
      · exact hlt.trans (hk.1 c hc)
    · split
      · next hka => exact List.pairwise_cons.2 ⟨fun c hc => hka ▸ hk.1 c hc, hk.2⟩
      · next hnlt hne =>
        refine List.pairwise_cons.2 ⟨fun c hc => ?_, ih hk.2⟩
        rcases Memory.mem_put hc with rfl | hc
        · exact lt_of_le_of_ne (not_lt.1 hnlt) hne
        · exact hk.1 c hc

/-- Storing a cell inside the 64 KiB keeps the canonical form. -/
theorem Memory.store_wf {m : Memory} (h : m.wf) {a : Nat} (ha : a < 65536) (v : Byte) : (Memory.store a v m).wf := by
  unfold Memory.store
  split
  · exact Memory.erase_wf h a
  · next hv =>
    refine ⟨Memory.put_sorted h.1 a v, fun c hc => ?_⟩
    rcases Memory.mem_put hc with rfl | hc
    · exact ⟨ha, hv⟩
    · exact h.2 c hc

theorem Memory.write8_wf {m : Memory} (h : m.wf) (a : Word) (v : Byte) : (m.write8 a v).wf :=
  Memory.store_wf h a.isLt v

theorem Memory.write16_wf {m : Memory} (h : m.wf) (a v : Word) : (m.write16 a v).wf :=
  Memory.write8_wf (Memory.write8_wf h a _) _ _

theorem Memory.storeBytes_wf {m : Memory} (h : m.wf) (a : Word) (b : InstrBytes) : (m.storeBytes a b).wf :=
  Memory.write8_wf (Memory.write8_wf (Memory.write8_wf (Memory.write8_wf h _ _) _ _) _ _) _ _

end Sys2Proof.Machine
end

