-- ==== Sys2Proof/Laws/State.lean ====
section
/-!
SUPPORT. What each update of the state does to each field: one lemma per field per update, so that no proof unfolds a record
update.
-/
namespace Sys2Proof.Machine

/-! ## State.setReg -/

@[simp] theorem State.setReg_pc (s : State) (i : Reg) (v : Word) : (s.setReg i v).pc = s.pc := rfl
@[simp] theorem State.setReg_sp (s : State) (i : Reg) (v : Word) : (s.setReg i v).sp = s.sp := rfl
@[simp] theorem State.setReg_flags (s : State) (i : Reg) (v : Word) : (s.setReg i v).flags = s.flags := rfl
@[simp] theorem State.setReg_cycleCount (s : State) (i : Reg) (v : Word) : (s.setReg i v).cycleCount = s.cycleCount := rfl
@[simp] theorem State.setReg_fault (s : State) (i : Reg) (v : Word) : (s.setReg i v).fault = s.fault := rfl
@[simp] theorem State.setReg_mem (s : State) (i : Reg) (v : Word) : (s.setReg i v).mem = s.mem := rfl
@[simp] theorem State.setReg_history (s : State) (i : Reg) (v : Word) : (s.setReg i v).history = s.history := rfl
@[simp] theorem State.setReg_answers (s : State) (i : Reg) (v : Word) : (s.setReg i v).answers = s.answers := rfl
@[simp] theorem State.setReg_draws (s : State) (i : Reg) (v : Word) : (s.setReg i v).draws = s.draws := rfl

/-- R21: a register reads back what was written to it, and no other register changes. -/
@[simp] theorem State.setReg_reg (s : State) (i j : Reg) (v : Word) :
    (s.setReg i v).reg j = if j = i then v else s.reg j := by
  unfold State.setReg State.reg
  by_cases h : j = i
  · subst h; simp
  · have h' : i.toNat ≠ j.toNat := fun e => h (BitVec.eq_of_toNat_eq e.symm)
    simp [h, h']

/-! ## State.setSp -/

@[simp] theorem State.setSp_regs (s : State) (v : Word) : (s.setSp v).regs = s.regs := rfl
@[simp] theorem State.setSp_pc (s : State) (v : Word) : (s.setSp v).pc = s.pc := rfl
@[simp] theorem State.setSp_sp (s : State) (v : Word) : (s.setSp v).sp = v := rfl
@[simp] theorem State.setSp_flags (s : State) (v : Word) : (s.setSp v).flags = s.flags := rfl
@[simp] theorem State.setSp_cycleCount (s : State) (v : Word) : (s.setSp v).cycleCount = s.cycleCount := rfl
@[simp] theorem State.setSp_fault (s : State) (v : Word) : (s.setSp v).fault = s.fault := rfl
@[simp] theorem State.setSp_mem (s : State) (v : Word) : (s.setSp v).mem = s.mem := rfl
@[simp] theorem State.setSp_history (s : State) (v : Word) : (s.setSp v).history = s.history := rfl
@[simp] theorem State.setSp_answers (s : State) (v : Word) : (s.setSp v).answers = s.answers := rfl
@[simp] theorem State.setSp_draws (s : State) (v : Word) : (s.setSp v).draws = s.draws := rfl
@[simp] theorem State.setSp_reg (s : State) (v : Word) (j : Reg) : (s.setSp v).reg j = s.reg j := rfl

/-! ## State.setFlags -/

@[simp] theorem State.setFlags_regs (s : State) (f : Flags) : (s.setFlags f).regs = s.regs := rfl
@[simp] theorem State.setFlags_pc (s : State) (f : Flags) : (s.setFlags f).pc = s.pc := rfl
@[simp] theorem State.setFlags_sp (s : State) (f : Flags) : (s.setFlags f).sp = s.sp := rfl
@[simp] theorem State.setFlags_flags (s : State) (f : Flags) : (s.setFlags f).flags = f := rfl
@[simp] theorem State.setFlags_cycleCount (s : State) (f : Flags) : (s.setFlags f).cycleCount = s.cycleCount := rfl
@[simp] theorem State.setFlags_fault (s : State) (f : Flags) : (s.setFlags f).fault = s.fault := rfl
@[simp] theorem State.setFlags_mem (s : State) (f : Flags) : (s.setFlags f).mem = s.mem := rfl
@[simp] theorem State.setFlags_history (s : State) (f : Flags) : (s.setFlags f).history = s.history := rfl
@[simp] theorem State.setFlags_answers (s : State) (f : Flags) : (s.setFlags f).answers = s.answers := rfl
@[simp] theorem State.setFlags_draws (s : State) (f : Flags) : (s.setFlags f).draws = s.draws := rfl
@[simp] theorem State.setFlags_reg (s : State) (f : Flags) (j : Reg) : (s.setFlags f).reg j = s.reg j := rfl

/-! ## State.setMem -/

@[simp] theorem State.setMem_regs (s : State) (m : Memory) : (s.setMem m).regs = s.regs := rfl
@[simp] theorem State.setMem_pc (s : State) (m : Memory) : (s.setMem m).pc = s.pc := rfl
@[simp] theorem State.setMem_sp (s : State) (m : Memory) : (s.setMem m).sp = s.sp := rfl
@[simp] theorem State.setMem_flags (s : State) (m : Memory) : (s.setMem m).flags = s.flags := rfl
@[simp] theorem State.setMem_cycleCount (s : State) (m : Memory) : (s.setMem m).cycleCount = s.cycleCount := rfl
@[simp] theorem State.setMem_fault (s : State) (m : Memory) : (s.setMem m).fault = s.fault := rfl
@[simp] theorem State.setMem_mem (s : State) (m : Memory) : (s.setMem m).mem = m := rfl
@[simp] theorem State.setMem_history (s : State) (m : Memory) : (s.setMem m).history = s.history := rfl
@[simp] theorem State.setMem_answers (s : State) (m : Memory) : (s.setMem m).answers = s.answers := rfl
@[simp] theorem State.setMem_draws (s : State) (m : Memory) : (s.setMem m).draws = s.draws := rfl
@[simp] theorem State.setMem_reg (s : State) (m : Memory) (j : Reg) : (s.setMem m).reg j = s.reg j := rfl

/-! ## State.push -/

@[simp] theorem State.push_regs (s : State) (v : Word) : (s.push v).regs = s.regs := rfl
@[simp] theorem State.push_pc (s : State) (v : Word) : (s.push v).pc = s.pc := rfl
@[simp] theorem State.push_sp (s : State) (v : Word) : (s.push v).sp = s.sp + 2 := rfl
@[simp] theorem State.push_flags (s : State) (v : Word) : (s.push v).flags = s.flags := rfl
@[simp] theorem State.push_cycleCount (s : State) (v : Word) : (s.push v).cycleCount = s.cycleCount := rfl
@[simp] theorem State.push_fault (s : State) (v : Word) : (s.push v).fault = s.fault := rfl
@[simp] theorem State.push_mem (s : State) (v : Word) : (s.push v).mem = s.mem.write16 s.sp v := rfl
@[simp] theorem State.push_history (s : State) (v : Word) : (s.push v).history = s.history := rfl
@[simp] theorem State.push_answers (s : State) (v : Word) : (s.push v).answers = s.answers := rfl
@[simp] theorem State.push_draws (s : State) (v : Word) : (s.push v).draws = s.draws := rfl
@[simp] theorem State.push_reg (s : State) (v : Word) (j : Reg) : (s.push v).reg j = s.reg j := rfl

/-! ## State.popped -/

@[simp] theorem State.popped_regs (s : State) : (s.popped).regs = s.regs := rfl
@[simp] theorem State.popped_pc (s : State) : (s.popped).pc = s.pc := rfl
@[simp] theorem State.popped_sp (s : State) : (s.popped).sp = s.sp - 2 := rfl
@[simp] theorem State.popped_flags (s : State) : (s.popped).flags = s.flags := rfl
@[simp] theorem State.popped_cycleCount (s : State) : (s.popped).cycleCount = s.cycleCount := rfl
@[simp] theorem State.popped_fault (s : State) : (s.popped).fault = s.fault := rfl
@[simp] theorem State.popped_mem (s : State) : (s.popped).mem = s.mem := rfl
@[simp] theorem State.popped_history (s : State) : (s.popped).history = s.history := rfl
@[simp] theorem State.popped_answers (s : State) : (s.popped).answers = s.answers := rfl
@[simp] theorem State.popped_draws (s : State) : (s.popped).draws = s.draws := rfl
@[simp] theorem State.popped_reg (s : State) (j : Reg) : (s.popped).reg j = s.reg j := rfl

/-! ## State.issue -/

@[simp] theorem State.issue_regs (s : State) (e : PeriphEvent) : (s.issue e).regs = s.regs := rfl
@[simp] theorem State.issue_pc (s : State) (e : PeriphEvent) : (s.issue e).pc = s.pc := rfl
@[simp] theorem State.issue_sp (s : State) (e : PeriphEvent) : (s.issue e).sp = s.sp := rfl
@[simp] theorem State.issue_flags (s : State) (e : PeriphEvent) : (s.issue e).flags = s.flags := rfl
@[simp] theorem State.issue_cycleCount (s : State) (e : PeriphEvent) : (s.issue e).cycleCount = s.cycleCount := rfl
@[simp] theorem State.issue_fault (s : State) (e : PeriphEvent) : (s.issue e).fault = s.fault := rfl
@[simp] theorem State.issue_mem (s : State) (e : PeriphEvent) : (s.issue e).mem = s.mem := rfl
@[simp] theorem State.issue_history (s : State) (e : PeriphEvent) : (s.issue e).history = s.history ++ [e] := rfl
@[simp] theorem State.issue_answers (s : State) (e : PeriphEvent) : (s.issue e).answers = s.answers := rfl
@[simp] theorem State.issue_draws (s : State) (e : PeriphEvent) : (s.issue e).draws = s.draws := rfl
@[simp] theorem State.issue_reg (s : State) (e : PeriphEvent) (j : Reg) : (s.issue e).reg j = s.reg j := rfl

/-! ## State.drawn -/

@[simp] theorem State.drawn_regs (s : State) : (s.drawn).regs = s.regs := rfl
@[simp] theorem State.drawn_pc (s : State) : (s.drawn).pc = s.pc := rfl
@[simp] theorem State.drawn_sp (s : State) : (s.drawn).sp = s.sp := rfl
@[simp] theorem State.drawn_flags (s : State) : (s.drawn).flags = s.flags := rfl
@[simp] theorem State.drawn_cycleCount (s : State) : (s.drawn).cycleCount = s.cycleCount := rfl
@[simp] theorem State.drawn_fault (s : State) : (s.drawn).fault = s.fault := rfl
@[simp] theorem State.drawn_mem (s : State) : (s.drawn).mem = s.mem := rfl
@[simp] theorem State.drawn_history (s : State) : (s.drawn).history = s.history := rfl
@[simp] theorem State.drawn_answers (s : State) : (s.drawn).answers = s.answers.tail := rfl
@[simp] theorem State.drawn_draws (s : State) : (s.drawn).draws = s.draws + 1 := rfl
@[simp] theorem State.drawn_reg (s : State) (j : Reg) : (s.drawn).reg j = s.reg j := rfl

/-! ## State.commit -/

@[simp] theorem State.commit_regs (s : State) (d : Word) : (s.commit d).regs = s.regs := rfl
@[simp] theorem State.commit_pc (s : State) (d : Word) : (s.commit d).pc = s.pc + d := rfl
@[simp] theorem State.commit_sp (s : State) (d : Word) : (s.commit d).sp = s.sp := rfl
@[simp] theorem State.commit_flags (s : State) (d : Word) : (s.commit d).flags = s.flags := rfl
@[simp] theorem State.commit_cycleCount (s : State) (d : Word) : (s.commit d).cycleCount = s.cycleCount + 1 := rfl
@[simp] theorem State.commit_fault (s : State) (d : Word) : (s.commit d).fault = s.fault := rfl
@[simp] theorem State.commit_mem (s : State) (d : Word) : (s.commit d).mem = s.mem := rfl
@[simp] theorem State.commit_history (s : State) (d : Word) : (s.commit d).history = s.history := rfl
@[simp] theorem State.commit_answers (s : State) (d : Word) : (s.commit d).answers = s.answers := rfl
@[simp] theorem State.commit_draws (s : State) (d : Word) : (s.commit d).draws = s.draws := rfl
@[simp] theorem State.commit_reg (s : State) (d : Word) (j : Reg) : (s.commit d).reg j = s.reg j := rfl

/-! ## State.raise -/

@[simp] theorem State.raise_regs (s : State) (c : FaultCode) : (s.raise c).regs = s.regs := rfl
@[simp] theorem State.raise_pc (s : State) (c : FaultCode) : (s.raise c).pc = s.pc := rfl
@[simp] theorem State.raise_sp (s : State) (c : FaultCode) : (s.raise c).sp = s.sp := rfl
@[simp] theorem State.raise_flags (s : State) (c : FaultCode) : (s.raise c).flags = s.flags := rfl
@[simp] theorem State.raise_cycleCount (s : State) (c : FaultCode) : (s.raise c).cycleCount = s.cycleCount := rfl
@[simp] theorem State.raise_fault (s : State) (c : FaultCode) : (s.raise c).fault = some ⟨c, s.pc, s.fetchBytes⟩ := rfl
@[simp] theorem State.raise_mem (s : State) (c : FaultCode) : (s.raise c).mem = s.mem := rfl
@[simp] theorem State.raise_history (s : State) (c : FaultCode) : (s.raise c).history = s.history := rfl
@[simp] theorem State.raise_answers (s : State) (c : FaultCode) : (s.raise c).answers = s.answers := rfl
@[simp] theorem State.raise_draws (s : State) (c : FaultCode) : (s.raise c).draws = s.draws := rfl
@[simp] theorem State.raise_reg (s : State) (c : FaultCode) (j : Reg) : (s.raise c).reg j = s.reg j := rfl

/-! ## The environment's answer -/

@[simp] theorem State.answer_of_cons {s : State} {a : EnvAnswer} {rest : List EnvAnswer} (h : s.answers = a :: rest) :
    s.answer = a := by simp [State.answer, h]

end Sys2Proof.Machine
end

