-- ==== Sys2Proof/Laws/Forms.lean ====
section
/-!
SUPPORT. One lemma per shared shape of Machine/Forms.lean: all that it can answer. A meaning's lemma is one of these at its
operands.
-/
namespace Sys2Proof.Machine

theorem sequential_eq (s : State) : sequential s = .next (s.commit 4) := rfl

theorem transferTo_eq (t : Word) (s : State) : transferTo t s = .next (s.commit (t - s.pc)) := rfl

/-- R91: a transfer reaches its target from every `pc`. -/
@[simp] theorem add_deltaTo (s : State) (t : Word) : s.pc + (t - s.pc) = t := by
  rw [BitVec.add_comm, BitVec.sub_add_cancel]

theorem callTo_eq (t : Word) (s : State) : callTo t s = .next ((s.push (s.pc + 4)).commit (t - s.pc)) := rfl

theorem aluInto_eq (dst : Reg) (res : Word → Word → Word) (fl : Word → Word → Flags → Flags) (a b : Word) (s : State) :
    aluInto dst res fl a b s = .next (((s.setFlags (fl a b s.flags)).setReg dst (res a b)).commit 4) := rfl

/-- Every other divisor: the division answers as aluInto. -/
theorem aluDivide_of_ne {b : Word} (h : b ≠ 0) (dst : Reg) (res : Word → Word → Word) (fl : Word → Word → Flags → Flags)
    (a : Word) (s : State) : aluDivide dst res fl a b s = aluInto dst res fl a b s := if_neg h

/-- A division by zero answers the state with the fault record, and nothing else (R219, R301). -/
theorem aluDivide_zero (dst : Reg) (res : Word → Word → Word) (fl : Word → Word → Flags → Flags) (a : Word) (s : State) :
    aluDivide dst res fl a 0 s = .next (s.raise .divideByZero) := if_pos rfl

theorem drawSprite_eq (event : Bool → PeriphEvent) (s : State) :
    drawSprite event s = .next (((s.drawn.issue (event s.answer.collision)).setFlags
      (flagsCollision s.answer.collision s.flags)).commit 4) := rfl

/-! ## The stack -/

/-- What a push leaves readable (R270): the word at the old `sp`, its bytes low first. -/
theorem push_read8 (s : State) (v b : Word) :
    (s.push v).mem.read8 b =
      if b = s.sp + 1 then hiByte v else if b = s.sp then loByte v else s.mem.read8 b := by
  simp [Memory.write16]

theorem pushRegs_cons (i : Reg) (rs : List Reg) (s : State) : pushRegs (i :: rs) s = pushRegs rs (s.push (s.reg i)) := rfl

theorem popRegs_cons (i : Reg) (rs : List Reg) (s : State) :
    popRegs (i :: rs) s = popRegs rs (s.popped.setReg i s.popValue) := rfl

/-- Pushing registers changes only memory and `sp`. -/
theorem pushRegs_kept (rs : List Reg) (s : State) :
    (pushRegs rs s).regs = s.regs ∧ (pushRegs rs s).pc = s.pc ∧ (pushRegs rs s).flags = s.flags ∧
    (pushRegs rs s).cycleCount = s.cycleCount ∧ (pushRegs rs s).fault = s.fault ∧
    (pushRegs rs s).history = s.history ∧ (pushRegs rs s).answers = s.answers ∧ (pushRegs rs s).draws = s.draws := by
  induction rs generalizing s with
  | nil => simp [pushRegs]
  | cons i rs ih => rw [pushRegs_cons]; simpa using ih (s.push (s.reg i))

/-- Each register pushed moves `sp` up by 2, modulo 65536 (R270). -/
theorem pushRegs_sp (rs : List Reg) (s : State) : (pushRegs rs s).sp = s.sp + BitVec.ofNat 16 (2 * rs.length) := by
  induction rs generalizing s with
  | nil => simp [pushRegs]
  | cons i rs ih => rw [pushRegs_cons, ih]; simp; bv_omega

/-- Pushing at most 16 registers stores to nothing but the bytes from the old `sp` up, two for each register. -/
theorem pushRegs_read8_outside (rs : List Reg) (s : State) (hl : rs.length ≤ 16) (a : Word)
    (h : 2 * rs.length ≤ (a - s.sp).toNat) : (pushRegs rs s).mem.read8 a = s.mem.read8 a := by
  induction rs generalizing s with
  | nil => rfl
  | cons i rs ih =>
    simp only [List.length_cons] at hl h
    rw [pushRegs_cons, ih _ (by omega)]
    · rw [push_read8, if_neg, if_neg]
      · rintro rfl; simp at h
      · rintro rfl
        rw [show s.sp + 1 - s.sp = 1#16 by bv_omega] at h
        have : (1#16 : BitVec 16).toNat = 1 := rfl
        omega
    · simp only [State.push_sp]
      bv_omega

/-- Each register popped moves `sp` down by 2, modulo 65536 (R270). -/
theorem popRegs_sp (rs : List Reg) (s : State) : (popRegs rs s).sp = s.sp - BitVec.ofNat 16 (2 * rs.length) := by
  induction rs generalizing s with
  | nil => simp [popRegs]
  | cons i rs ih => rw [popRegs_cons, ih]; simp; bv_omega

theorem pushRegs_wf (rs : List Reg) {s : State} (h : s.mem.wf) : (pushRegs rs s).mem.wf := by
  induction rs generalizing s with
  | nil => exact h
  | cons i rs ih => rw [pushRegs_cons]; exact ih (Memory.write16_wf h _ _)

/-- Popping registers changes only the registers and `sp`. -/
theorem popRegs_kept (rs : List Reg) (s : State) :
    (popRegs rs s).mem = s.mem ∧ (popRegs rs s).pc = s.pc ∧ (popRegs rs s).flags = s.flags ∧
    (popRegs rs s).cycleCount = s.cycleCount ∧ (popRegs rs s).fault = s.fault ∧
    (popRegs rs s).history = s.history ∧ (popRegs rs s).answers = s.answers ∧ (popRegs rs s).draws = s.draws := by
  induction rs generalizing s with
  | nil => simp [popRegs]
  | cons i rs ih => rw [popRegs_cons]; simpa using ih (s.popped.setReg i s.popValue)

end Sys2Proof.Machine
end

