-- ==== Sys2Proof/Laws/Step.lean ====
section
/-!
SUPPORT. What a step can do, said once: the inversion lemma of `step`, and that placing an instruction word keeps the
canonical form of memory.
-/
namespace Sys2Proof.Machine

/-- Every answer of `step` that is a next state (R83, R89, R305). -/
theorem step_next_cases {s t : State} (h : step s = .next t) :
    (s.fault.isSome ∧ t = s) ∨
    (s.fault = none ∧ (∃ e, decode s.fetchBytes = .rejected e) ∧ t = s.raise .unmappedOpcode) ∨
    (s.fault = none ∧ ∃ i, decode s.fetchBytes = .instr i ∧ exec i s = .next t) := by
  unfold step at h
  split at h
  · next hf => cases h; exact .inl ⟨hf, rfl⟩
  · next hf =>
    have hn : s.fault = none := by simpa using hf
    cases hd : decode s.fetchBytes with
    | instr i => rw [hd] at h; exact .inr (.inr ⟨hn, i, rfl, h⟩)
    | rejected e => rw [hd] at h; cases h; exact .inr (.inl ⟨hn, ⟨e, rfl⟩, rfl⟩)

/-- The host's placing of an instruction word keeps the canonical form of memory. -/
theorem withFetchWord_wf {s : State} (h : s.mem.wf) (nbits w : Nat) : (s.withFetchWord nbits w).mem.wf :=
  Memory.storeBytes_wf h _ _

end Sys2Proof.Machine
end

