-- ==== Sys2Proof/Laws/Exec.lean ====
section
/-!
SUPPORT. What `exec` answers, one equation per instruction, in the updates of Laws/State.lean; the nine divisions in two cases.
A proof over all instructions is `cases i` and these.
-/
namespace Sys2Proof.Machine

theorem exec_nop (s : State) :
    exec (.nop) s = .next (s.commit 4) := rfl

theorem exec_cls (s : State) :
    exec (.cls) s = .next (((s.issue .clearForeground).issue .clearBackground).commit 4) := rfl

theorem exec_vblnk (s : State) :
    exec (.vblnk) s = .next ((s.drawn.issue (.isVblank s.answer.vblank)).commit (if s.answer.vblank then 4 else 0)) := rfl

theorem exec_bgc (n : Nibble) (s : State) :
    exec (.bgc n) s = .next ((s.issue (.setBackgroundIndex n)).commit 4) := rfl

theorem exec_spr (w h : Byte) (s : State) :
    exec (.spr w h) s = .next ((s.issue (.setSpriteDimensions w h)).commit 4) := rfl

theorem exec_drwImm (x y : Reg) (hhll : Word) (s : State) :
    exec (.drwImm x y hhll) s = .next (((s.drawn.issue (.drawSpriteFromAddress hhll (s.reg x) (s.reg y) s.answer.collision)).setFlags (flagsCollision s.answer.collision s.flags)).commit 4) := rfl

theorem exec_drwReg (x y z : Reg) (s : State) :
    exec (.drwReg x y z) s = .next (((s.drawn.issue (.drawSpriteFromRegisterPointer (s.reg z) (s.reg x) (s.reg y) s.answer.collision)).setFlags (flagsCollision s.answer.collision s.flags)).commit 4) := rfl

theorem exec_rnd (x : Reg) (hhll : Word) (s : State) :
    exec (.rnd x hhll) s = .next ((s.drawn.setReg x (rndWithin hhll s.answer.rnd)).commit 4) := rfl

theorem exec_flip (hflip : BitVec 7) (vflip : BitVec 1) (s : State) :
    exec (.flip hflip vflip) s = .next ((s.issue (.setFlip (flipBit hflip) (flipBit vflip))).commit 4) := rfl

theorem exec_snd0 (s : State) :
    exec (.snd0) s = .next ((s.issue .stop).commit 4) := rfl

theorem exec_snd1 (hhll : Word) (s : State) :
    exec (.snd1 hhll) s = .next ((s.issue (.playFixedToneA hhll)).commit 4) := rfl

theorem exec_snd2 (hhll : Word) (s : State) :
    exec (.snd2 hhll) s = .next ((s.issue (.playFixedToneB hhll)).commit 4) := rfl

theorem exec_snd3 (hhll : Word) (s : State) :
    exec (.snd3 hhll) s = .next ((s.issue (.playFixedToneC hhll)).commit 4) := rfl

theorem exec_snp (x : Reg) (hhll : Word) (s : State) :
    exec (.snp x hhll) s = .next ((s.issue (.playTone (s.reg x) hhll)).commit 4) := rfl

theorem exec_sng (ad : Byte) (vtsr : Word) (s : State) :
    exec (.sng ad vtsr) s = .next ((s.issue (.setupEnvelope ad vtsr)).commit 4) := rfl

theorem exec_jmp (hhll : Word) (s : State) :
    exec (.jmp hhll) s = .next (s.commit (hhll - s.pc)) := rfl

theorem exec_jx (x : Nibble) (hhll : Word) (s : State) :
    exec (.jx x hhll) s = .next (if x ≠ 0 then s.commit (hhll - s.pc) else s.commit 4) := 
  (apply_ite Host.Outcome.next _ _ _).symm

theorem exec_jme (x y : Reg) (hhll : Word) (s : State) :
    exec (.jme x y hhll) s = .next (if s.reg x = s.reg y then s.commit (hhll - s.pc) else s.commit 4) := 
  (apply_ite Host.Outcome.next _ _ _).symm

theorem exec_call (hhll : Word) (s : State) :
    exec (.call hhll) s = .next ((s.push (s.pc + 4)).commit (hhll - s.pc)) := rfl

theorem exec_ret (s : State) :
    exec (.ret) s = .next (s.popped.commit (s.popValue - s.pc)) := rfl

theorem exec_jmpReg (x : Reg) (s : State) :
    exec (.jmpReg x) s = .next (s.commit (s.reg x - s.pc)) := rfl

theorem exec_cx (x : Nibble) (hhll : Word) (s : State) :
    exec (.cx x hhll) s = .next (if x ≠ 0 then (s.push (s.pc + 4)).commit (hhll - s.pc) else s.commit 4) := 
  (apply_ite Host.Outcome.next _ _ _).symm

theorem exec_callReg (x : Reg) (s : State) :
    exec (.callReg x) s = .next ((s.push (s.pc + 4)).commit (s.reg x - s.pc)) := rfl

theorem exec_ldi (x : Reg) (hhll : Word) (s : State) :
    exec (.ldi x hhll) s = .next ((s.setReg x hhll).commit 4) := rfl

theorem exec_ldiSp (hhll : Word) (s : State) :
    exec (.ldiSp hhll) s = .next ((s.setSp hhll).commit 4) := rfl

theorem exec_ldm (x : Reg) (hhll : Word) (s : State) :
    exec (.ldm x hhll) s = .next ((s.setReg x (s.mem.read16 (absAddr hhll))).commit 4) := rfl

theorem exec_ldmReg (x y : Reg) (s : State) :
    exec (.ldmReg x y) s = .next ((s.setReg x (s.mem.read16 (regAddr y s))).commit 4) := rfl

theorem exec_mov (x y : Reg) (s : State) :
    exec (.mov x y) s = .next ((s.setReg x (s.reg y)).commit 4) := rfl

theorem exec_stm (x : Reg) (hhll : Word) (s : State) :
    exec (.stm x hhll) s = .next ((s.setMem (s.mem.write16 (absAddr hhll) (s.reg x))).commit 4) := rfl

theorem exec_stmReg (x y : Reg) (s : State) :
    exec (.stmReg x y) s = .next ((s.setMem (s.mem.write16 (regAddr y s) (s.reg x))).commit 4) := rfl

theorem exec_addi (x : Reg) (hhll : Word) (s : State) :
    exec (.addi x hhll) s = .next (((s.setFlags (flagsAdd (s.reg x) hhll s.flags)).setReg x (addResult (s.reg x) hhll)).commit 4) := rfl

theorem exec_add2 (x y : Reg) (s : State) :
    exec (.add2 x y) s = .next (((s.setFlags (flagsAdd (s.reg x) (s.reg y) s.flags)).setReg x (addResult (s.reg x) (s.reg y))).commit 4) := rfl

theorem exec_add3 (x y z : Reg) (s : State) :
    exec (.add3 x y z) s = .next (((s.setFlags (flagsAdd (s.reg x) (s.reg y) s.flags)).setReg z (addResult (s.reg x) (s.reg y))).commit 4) := rfl

theorem exec_subi (x : Reg) (hhll : Word) (s : State) :
    exec (.subi x hhll) s = .next (((s.setFlags (flagsSub (s.reg x) hhll s.flags)).setReg x (subResult (s.reg x) hhll)).commit 4) := rfl

theorem exec_sub2 (x y : Reg) (s : State) :
    exec (.sub2 x y) s = .next (((s.setFlags (flagsSub (s.reg x) (s.reg y) s.flags)).setReg x (subResult (s.reg x) (s.reg y))).commit 4) := rfl

theorem exec_sub3 (x y z : Reg) (s : State) :
    exec (.sub3 x y z) s = .next (((s.setFlags (flagsSub (s.reg x) (s.reg y) s.flags)).setReg z (subResult (s.reg x) (s.reg y))).commit 4) := rfl

theorem exec_cmpi (x : Reg) (hhll : Word) (s : State) :
    exec (.cmpi x hhll) s = .next ((s.setFlags (flagsSub (s.reg x) hhll s.flags)).commit 4) := rfl

theorem exec_cmp (x y : Reg) (s : State) :
    exec (.cmp x y) s = .next ((s.setFlags (flagsSub (s.reg x) (s.reg y) s.flags)).commit 4) := rfl

theorem exec_andi (x : Reg) (hhll : Word) (s : State) :
    exec (.andi x hhll) s = .next (((s.setFlags (flagsZn (s.reg x &&& hhll) s.flags)).setReg x (s.reg x &&& hhll)).commit 4) := rfl

theorem exec_and2 (x y : Reg) (s : State) :
    exec (.and2 x y) s = .next (((s.setFlags (flagsZn (s.reg x &&& s.reg y) s.flags)).setReg x (s.reg x &&& s.reg y)).commit 4) := rfl

theorem exec_and3 (x y z : Reg) (s : State) :
    exec (.and3 x y z) s = .next (((s.setFlags (flagsZn (s.reg x &&& s.reg y) s.flags)).setReg z (s.reg x &&& s.reg y)).commit 4) := rfl

theorem exec_tsti (x : Reg) (hhll : Word) (s : State) :
    exec (.tsti x hhll) s = .next ((s.setFlags (flagsZn (s.reg x &&& hhll) s.flags)).commit 4) := rfl

theorem exec_tst (x y : Reg) (s : State) :
    exec (.tst x y) s = .next ((s.setFlags (flagsZn (s.reg x &&& s.reg y) s.flags)).commit 4) := rfl

theorem exec_ori (x : Reg) (hhll : Word) (s : State) :
    exec (.ori x hhll) s = .next (((s.setFlags (flagsZn (s.reg x ||| hhll) s.flags)).setReg x (s.reg x ||| hhll)).commit 4) := rfl

theorem exec_or2 (x y : Reg) (s : State) :
    exec (.or2 x y) s = .next (((s.setFlags (flagsZn (s.reg x ||| s.reg y) s.flags)).setReg x (s.reg x ||| s.reg y)).commit 4) := rfl

theorem exec_or3 (x y z : Reg) (s : State) :
    exec (.or3 x y z) s = .next (((s.setFlags (flagsZn (s.reg x ||| s.reg y) s.flags)).setReg z (s.reg x ||| s.reg y)).commit 4) := rfl

theorem exec_xori (x : Reg) (hhll : Word) (s : State) :
    exec (.xori x hhll) s = .next (((s.setFlags (flagsZn (s.reg x ^^^ hhll) s.flags)).setReg x (s.reg x ^^^ hhll)).commit 4) := rfl

theorem exec_xor2 (x y : Reg) (s : State) :
    exec (.xor2 x y) s = .next (((s.setFlags (flagsZn (s.reg x ^^^ s.reg y) s.flags)).setReg x (s.reg x ^^^ s.reg y)).commit 4) := rfl

theorem exec_xor3 (x y z : Reg) (s : State) :
    exec (.xor3 x y z) s = .next (((s.setFlags (flagsZn (s.reg x ^^^ s.reg y) s.flags)).setReg z (s.reg x ^^^ s.reg y)).commit 4) := rfl

theorem exec_muli (x : Reg) (hhll : Word) (s : State) :
    exec (.muli x hhll) s = .next (((s.setFlags (flagsMul (s.reg x) hhll s.flags)).setReg x (mulResult (s.reg x) hhll)).commit 4) := rfl

theorem exec_mul2 (x y : Reg) (s : State) :
    exec (.mul2 x y) s = .next (((s.setFlags (flagsMul (s.reg x) (s.reg y) s.flags)).setReg x (mulResult (s.reg x) (s.reg y))).commit 4) := rfl

theorem exec_mul3 (x y z : Reg) (s : State) :
    exec (.mul3 x y z) s = .next (((s.setFlags (flagsMul (s.reg x) (s.reg y) s.flags)).setReg z (mulResult (s.reg x) (s.reg y))).commit 4) := rfl

theorem exec_divi_zero (x : Reg) (hhll : Word) {s : State} (h : hhll = 0) :
    exec (.divi x hhll) s = .next (s.raise .divideByZero) := if_pos h

theorem exec_divi (x : Reg) (hhll : Word) {s : State} (h : hhll ≠ 0) :
    exec (.divi x hhll) s = .next (((s.setFlags (flagsDiv (s.reg x) hhll s.flags)).setReg x (divResult (s.reg x) hhll)).commit 4) := if_neg h

theorem exec_div2_zero (x y : Reg) {s : State} (h : s.reg y = 0) :
    exec (.div2 x y) s = .next (s.raise .divideByZero) := if_pos h

theorem exec_div2 (x y : Reg) {s : State} (h : s.reg y ≠ 0) :
    exec (.div2 x y) s = .next (((s.setFlags (flagsDiv (s.reg x) (s.reg y) s.flags)).setReg x (divResult (s.reg x) (s.reg y))).commit 4) := if_neg h

theorem exec_div3_zero (x y z : Reg) {s : State} (h : s.reg y = 0) :
    exec (.div3 x y z) s = .next (s.raise .divideByZero) := if_pos h

theorem exec_div3 (x y z : Reg) {s : State} (h : s.reg y ≠ 0) :
    exec (.div3 x y z) s = .next (((s.setFlags (flagsDiv (s.reg x) (s.reg y) s.flags)).setReg z (divResult (s.reg x) (s.reg y))).commit 4) := if_neg h

theorem exec_modi_zero (x : Reg) (hhll : Word) {s : State} (h : hhll = 0) :
    exec (.modi x hhll) s = .next (s.raise .divideByZero) := if_pos h

theorem exec_modi (x : Reg) (hhll : Word) {s : State} (h : hhll ≠ 0) :
    exec (.modi x hhll) s = .next (((s.setFlags (flagsMod (s.reg x) hhll s.flags)).setReg x (modResult (s.reg x) hhll)).commit 4) := if_neg h

theorem exec_mod2_zero (x y : Reg) {s : State} (h : s.reg y = 0) :
    exec (.mod2 x y) s = .next (s.raise .divideByZero) := if_pos h

theorem exec_mod2 (x y : Reg) {s : State} (h : s.reg y ≠ 0) :
    exec (.mod2 x y) s = .next (((s.setFlags (flagsMod (s.reg x) (s.reg y) s.flags)).setReg x (modResult (s.reg x) (s.reg y))).commit 4) := if_neg h

theorem exec_mod3_zero (x y z : Reg) {s : State} (h : s.reg y = 0) :
    exec (.mod3 x y z) s = .next (s.raise .divideByZero) := if_pos h

theorem exec_mod3 (x y z : Reg) {s : State} (h : s.reg y ≠ 0) :
    exec (.mod3 x y z) s = .next (((s.setFlags (flagsMod (s.reg x) (s.reg y) s.flags)).setReg z (modResult (s.reg x) (s.reg y))).commit 4) := if_neg h

theorem exec_remi_zero (x : Reg) (hhll : Word) {s : State} (h : hhll = 0) :
    exec (.remi x hhll) s = .next (s.raise .divideByZero) := if_pos h

theorem exec_remi (x : Reg) (hhll : Word) {s : State} (h : hhll ≠ 0) :
    exec (.remi x hhll) s = .next (((s.setFlags (flagsMod (s.reg x) hhll s.flags)).setReg x (modResult (s.reg x) hhll)).commit 4) := if_neg h

theorem exec_rem2_zero (x y : Reg) {s : State} (h : s.reg y = 0) :
    exec (.rem2 x y) s = .next (s.raise .divideByZero) := if_pos h

theorem exec_rem2 (x y : Reg) {s : State} (h : s.reg y ≠ 0) :
    exec (.rem2 x y) s = .next (((s.setFlags (flagsMod (s.reg x) (s.reg y) s.flags)).setReg x (modResult (s.reg x) (s.reg y))).commit 4) := if_neg h

theorem exec_rem3_zero (x y z : Reg) {s : State} (h : s.reg y = 0) :
    exec (.rem3 x y z) s = .next (s.raise .divideByZero) := if_pos h

theorem exec_rem3 (x y z : Reg) {s : State} (h : s.reg y ≠ 0) :
    exec (.rem3 x y z) s = .next (((s.setFlags (flagsMod (s.reg x) (s.reg y) s.flags)).setReg z (modResult (s.reg x) (s.reg y))).commit 4) := if_neg h

theorem exec_shlN (x : Reg) (n : Nibble) (s : State) :
    exec (.shlN x n) s = .next (((s.setFlags (flagsZn (shlResult (s.reg x) (countOfNibble n)) s.flags)).setReg x (shlResult (s.reg x) (countOfNibble n))).commit 4) := rfl

theorem exec_shrN (x : Reg) (n : Nibble) (s : State) :
    exec (.shrN x n) s = .next (((s.setFlags (flagsZn (shrResult (s.reg x) (countOfNibble n)) s.flags)).setReg x (shrResult (s.reg x) (countOfNibble n))).commit 4) := rfl

theorem exec_sarN (x : Reg) (n : Nibble) (s : State) :
    exec (.sarN x n) s = .next (((s.setFlags (flagsZn (sarResult (s.reg x) (countOfNibble n)) s.flags)).setReg x (sarResult (s.reg x) (countOfNibble n))).commit 4) := rfl

theorem exec_shlReg (x y : Reg) (s : State) :
    exec (.shlReg x y) s = .next (((s.setFlags (flagsZn (shlResult (s.reg x) (countOfReg y s)) s.flags)).setReg x (shlResult (s.reg x) (countOfReg y s))).commit 4) := rfl

theorem exec_shrReg (x y : Reg) (s : State) :
    exec (.shrReg x y) s = .next (((s.setFlags (flagsZn (shrResult (s.reg x) (countOfReg y s)) s.flags)).setReg x (shrResult (s.reg x) (countOfReg y s))).commit 4) := rfl

theorem exec_sarReg (x y : Reg) (s : State) :
    exec (.sarReg x y) s = .next (((s.setFlags (flagsZn (sarResult (s.reg x) (countOfReg y s)) s.flags)).setReg x (sarResult (s.reg x) (countOfReg y s))).commit 4) := rfl

theorem exec_push (x : Reg) (s : State) :
    exec (.push x) s = .next ((s.push (s.reg x)).commit 4) := rfl

theorem exec_pop (x : Reg) (s : State) :
    exec (.pop x) s = .next ((s.popped.setReg x s.popValue).commit 4) := rfl

theorem exec_pushall (s : State) :
    exec (.pushall) s = .next ((pushRegs allRegs s).commit 4) := rfl

theorem exec_popall (s : State) :
    exec (.popall) s = .next ((popRegs allRegs.reverse s).commit 4) := rfl

theorem exec_pushf (s : State) :
    exec (.pushf) s = .next ((s.push (packFlags s.flags)).commit 4) := rfl

theorem exec_popf (s : State) :
    exec (.popf) s = .next ((s.popped.setFlags (unpackFlags s.popValue)).commit 4) := rfl

end Sys2Proof.Machine
end

