-- ==== Sys2Proof/Laws/PerInstr.lean ====
section
/-!
SUPPORT. Statements made per instruction. `MappedEncoding` says of an instruction, as syntax, that the word the encoder gives
it has the opcode byte of a mapped row: no instruction's encoding falls in the unmapped space of R83.
-/

/-- The instruction's encoding is a well-formed word: its opcode byte is none of R83's unmapped values. -/
def Sys2Proof.Laws.MappedEncoding.Statement (i : Sys2Proof.Instr) : Prop := i.WellFormed

namespace Sys2Proof.Laws.MappedEncoding
open Sys2Proof

theorem nop : Statement (.nop) := rfl
theorem cls : Statement (.cls) := rfl
theorem vblnk : Statement (.vblnk) := rfl
theorem bgc (n : Nibble) : Statement (.bgc n) := rfl
theorem spr (w h : Byte) : Statement (.spr w h) := rfl
theorem drwImm (x y : Reg) (hhll : Word) : Statement (.drwImm x y hhll) := rfl
theorem drwReg (x y z : Reg) : Statement (.drwReg x y z) := rfl
theorem rnd (x : Reg) (hhll : Word) : Statement (.rnd x hhll) := rfl
theorem flip (hflip : BitVec 7) (vflip : BitVec 1) : Statement (.flip hflip vflip) := rfl
theorem snd0 : Statement (.snd0) := rfl
theorem snd1 (hhll : Word) : Statement (.snd1 hhll) := rfl
theorem snd2 (hhll : Word) : Statement (.snd2 hhll) := rfl
theorem snd3 (hhll : Word) : Statement (.snd3 hhll) := rfl
theorem snp (x : Reg) (hhll : Word) : Statement (.snp x hhll) := rfl
theorem sng (ad : Byte) (vtsr : Word) : Statement (.sng ad vtsr) := rfl
theorem jmp (hhll : Word) : Statement (.jmp hhll) := rfl
theorem jx (x : Nibble) (hhll : Word) : Statement (.jx x hhll) := rfl
theorem jme (x y : Reg) (hhll : Word) : Statement (.jme x y hhll) := rfl
theorem call (hhll : Word) : Statement (.call hhll) := rfl
theorem ret : Statement (.ret) := rfl
theorem jmpReg (x : Reg) : Statement (.jmpReg x) := rfl
theorem cx (x : Nibble) (hhll : Word) : Statement (.cx x hhll) := rfl
theorem callReg (x : Reg) : Statement (.callReg x) := rfl
theorem ldi (x : Reg) (hhll : Word) : Statement (.ldi x hhll) := rfl
theorem ldiSp (hhll : Word) : Statement (.ldiSp hhll) := rfl
theorem ldm (x : Reg) (hhll : Word) : Statement (.ldm x hhll) := rfl
theorem ldmReg (x y : Reg) : Statement (.ldmReg x y) := rfl
theorem mov (x y : Reg) : Statement (.mov x y) := rfl
theorem stm (x : Reg) (hhll : Word) : Statement (.stm x hhll) := rfl
theorem stmReg (x y : Reg) : Statement (.stmReg x y) := rfl
theorem addi (x : Reg) (hhll : Word) : Statement (.addi x hhll) := rfl
theorem add2 (x y : Reg) : Statement (.add2 x y) := rfl
theorem add3 (x y z : Reg) : Statement (.add3 x y z) := rfl
theorem subi (x : Reg) (hhll : Word) : Statement (.subi x hhll) := rfl
theorem sub2 (x y : Reg) : Statement (.sub2 x y) := rfl
theorem sub3 (x y z : Reg) : Statement (.sub3 x y z) := rfl
theorem cmpi (x : Reg) (hhll : Word) : Statement (.cmpi x hhll) := rfl
theorem cmp (x y : Reg) : Statement (.cmp x y) := rfl
theorem andi (x : Reg) (hhll : Word) : Statement (.andi x hhll) := rfl
theorem and2 (x y : Reg) : Statement (.and2 x y) := rfl
theorem and3 (x y z : Reg) : Statement (.and3 x y z) := rfl
theorem tsti (x : Reg) (hhll : Word) : Statement (.tsti x hhll) := rfl
theorem tst (x y : Reg) : Statement (.tst x y) := rfl
theorem ori (x : Reg) (hhll : Word) : Statement (.ori x hhll) := rfl
theorem or2 (x y : Reg) : Statement (.or2 x y) := rfl
theorem or3 (x y z : Reg) : Statement (.or3 x y z) := rfl
theorem xori (x : Reg) (hhll : Word) : Statement (.xori x hhll) := rfl
theorem xor2 (x y : Reg) : Statement (.xor2 x y) := rfl
theorem xor3 (x y z : Reg) : Statement (.xor3 x y z) := rfl
theorem muli (x : Reg) (hhll : Word) : Statement (.muli x hhll) := rfl
theorem mul2 (x y : Reg) : Statement (.mul2 x y) := rfl
theorem mul3 (x y z : Reg) : Statement (.mul3 x y z) := rfl
theorem divi (x : Reg) (hhll : Word) : Statement (.divi x hhll) := rfl
theorem div2 (x y : Reg) : Statement (.div2 x y) := rfl
theorem div3 (x y z : Reg) : Statement (.div3 x y z) := rfl
theorem modi (x : Reg) (hhll : Word) : Statement (.modi x hhll) := rfl
theorem mod2 (x y : Reg) : Statement (.mod2 x y) := rfl
theorem mod3 (x y z : Reg) : Statement (.mod3 x y z) := rfl
theorem remi (x : Reg) (hhll : Word) : Statement (.remi x hhll) := rfl
theorem rem2 (x y : Reg) : Statement (.rem2 x y) := rfl
theorem rem3 (x y z : Reg) : Statement (.rem3 x y z) := rfl
theorem shlN (x : Reg) (n : Nibble) : Statement (.shlN x n) := rfl
theorem shrN (x : Reg) (n : Nibble) : Statement (.shrN x n) := rfl
theorem sarN (x : Reg) (n : Nibble) : Statement (.sarN x n) := rfl
theorem shlReg (x y : Reg) : Statement (.shlReg x y) := rfl
theorem shrReg (x y : Reg) : Statement (.shrReg x y) := rfl
theorem sarReg (x y : Reg) : Statement (.sarReg x y) := rfl
theorem push (x : Reg) : Statement (.push x) := rfl
theorem pop (x : Reg) : Statement (.pop x) := rfl
theorem pushall : Statement (.pushall) := rfl
theorem popall : Statement (.popall) := rfl
theorem pushf : Statement (.pushf) := rfl
theorem popf : Statement (.popf) := rfl

end Sys2Proof.Laws.MappedEncoding
end

