-- ==== Sys2Proof/Machine/Assembly.lean ====
section
/-!
DEFINITION. The assembler's spelling of an instruction (spec/30_encoding.md R86, D38): the mnemonic, then the operands in the
order of the opcode table. It is text for a reader; no step uses it. Log entry 16.
-/
namespace Sys2Proof.Machine

/-- One hexadecimal digit, a capital letter from 10 on. -/
def hexDigit (n : Nibble) : String :=
  String.singleton (if n.toNat < 10 then Char.ofNat (48 + n.toNat) else Char.ofNat (55 + n.toNat))

/-- A 4-bit number with `0x`. -/
def hexNibble (n : Nibble) : String := "0x" ++ hexDigit n

/-- An 8-bit number with `0x`. -/
def hexByte (b : Byte) : String := "0x" ++ hexDigit (hiNibble b) ++ hexDigit (loNibble b)

/-- A 16-bit number with `0x`. -/
def hexWord (w : Word) : String :=
  "0x" ++ hexDigit (hiNibble (hiByte w)) ++ hexDigit (loNibble (hiByte w)) ++ hexDigit (hiNibble (loByte w)) ++
    hexDigit (loNibble (loByte w))

/-- A register operand, `R0` to `RF` (R21, R86). -/
def regName (x : Reg) : String := "R" ++ hexDigit x

/-- `OP RX,HHLL`. -/
def lineXI (op : String) (x : Reg) (hhll : Word) : String := op ++ " " ++ regName x ++ "," ++ hexWord hhll

/-- `OP RX,RY`. -/
def lineXY (op : String) (x y : Reg) : String := op ++ " " ++ regName x ++ "," ++ regName y

/-- `OP RX,RY,RZ`. -/
def lineXYZ (op : String) (x y z : Reg) : String := lineXY op x y ++ "," ++ regName z

/-- `OP RX,RY,HHLL`. -/
def lineXYI (op : String) (x y : Reg) (hhll : Word) : String := lineXY op x y ++ "," ++ hexWord hhll

/-- `OP RX,N`. -/
def lineXN (op : String) (x : Reg) (n : Nibble) : String := op ++ " " ++ regName x ++ "," ++ hexNibble n

/-- The line of an instruction (R86). `Jx` and `Cx` carry the field's value as a digit in the mnemonic. -/
def assemblyLine : Instr → String
  | .nop => "NOP"
  | .cls => "CLS"
  | .vblnk => "VBLNK"
  | .bgc n => "BGC " ++ hexNibble n
  | .spr w h => "SPR " ++ hexWord (wordOf w h)
  | .drwImm x y hhll => lineXYI "DRW" x y hhll
  | .drwReg x y z => lineXYZ "DRW" x y z
  | .rnd x hhll => lineXI "RND" x hhll
  | .flip h v => "FLIP " ++ hexByte (h.setWidth 8) ++ "," ++ hexNibble (v.setWidth 4)
  | .snd0 => "SND0"
  | .snd1 hhll => "SND1 " ++ hexWord hhll
  | .snd2 hhll => "SND2 " ++ hexWord hhll
  | .snd3 hhll => "SND3 " ++ hexWord hhll
  | .snp x hhll => lineXI "SNP" x hhll
  | .sng ad vtsr => "SNG " ++ hexByte ad ++ "," ++ hexWord vtsr
  | .jmp hhll => "JMP " ++ hexWord hhll
  | .jx x hhll => "J" ++ hexDigit x ++ " " ++ hexWord hhll
  | .jme x y hhll => lineXYI "JME" x y hhll
  | .call hhll => "CALL " ++ hexWord hhll
  | .ret => "RET"
  | .jmpReg x => "JMP " ++ regName x
  | .cx x hhll => "C" ++ hexDigit x ++ " " ++ hexWord hhll
  | .callReg x => "CALL " ++ regName x
  | .ldi x hhll => lineXI "LDI" x hhll
  | .ldiSp hhll => "LDI SP," ++ hexWord hhll
  | .ldm x hhll => lineXI "LDM" x hhll
  | .ldmReg x y => lineXY "LDM" x y
  | .mov x y => lineXY "MOV" x y
  | .stm x hhll => lineXI "STM" x hhll
  | .stmReg x y => lineXY "STM" x y
  | .addi x hhll => lineXI "ADDI" x hhll
  | .add2 x y => lineXY "ADD" x y
  | .add3 x y z => lineXYZ "ADD" x y z
  | .subi x hhll => lineXI "SUBI" x hhll
  | .sub2 x y => lineXY "SUB" x y
  | .sub3 x y z => lineXYZ "SUB" x y z
  | .cmpi x hhll => lineXI "CMPI" x hhll
  | .cmp x y => lineXY "CMP" x y
  | .andi x hhll => lineXI "ANDI" x hhll
  | .and2 x y => lineXY "AND" x y
  | .and3 x y z => lineXYZ "AND" x y z
  | .tsti x hhll => lineXI "TSTI" x hhll
  | .tst x y => lineXY "TST" x y
  | .ori x hhll => lineXI "ORI" x hhll
  | .or2 x y => lineXY "OR" x y
  | .or3 x y z => lineXYZ "OR" x y z
  | .xori x hhll => lineXI "XORI" x hhll
  | .xor2 x y => lineXY "XOR" x y
  | .xor3 x y z => lineXYZ "XOR" x y z
  | .muli x hhll => lineXI "MULI" x hhll
  | .mul2 x y => lineXY "MUL" x y
  | .mul3 x y z => lineXYZ "MUL" x y z
  | .divi x hhll => lineXI "DIVI" x hhll
  | .div2 x y => lineXY "DIV" x y
  | .div3 x y z => lineXYZ "DIV" x y z
  | .modi x hhll => lineXI "MODI" x hhll
  | .mod2 x y => lineXY "MOD" x y
  | .mod3 x y z => lineXYZ "MOD" x y z
  | .remi x hhll => lineXI "REMI" x hhll
  | .rem2 x y => lineXY "REM" x y
  | .rem3 x y z => lineXYZ "REM" x y z
  | .shlN x n => lineXN "SHL" x n
  | .shrN x n => lineXN "SHR" x n
  | .sarN x n => lineXN "SAR" x n
  | .shlReg x y => lineXY "SHL" x y
  | .shrReg x y => lineXY "SHR" x y
  | .sarReg x y => lineXY "SAR" x y
  | .push x => "PUSH " ++ regName x
  | .pop x => "POP " ++ regName x
  | .pushall => "PUSHALL"
  | .popall => "POPALL"
  | .pushf => "PUSHF"
  | .popf => "POPF"

end Sys2Proof.Machine
end

