-- ==== Sys2Proof/Tests/Slice0.lean ====
section
/-!
SUPPORT. The model's own tests. Every expected result is the spec's: a rule's example or a vector of spec/95_test_vectors.md,
named in each comment. First the words (well-formed and ill-formed, and one word decoded for every constructor), then at most
two single steps an instruction, then the driver port, then a witness for the hypotheses of each statement that has any.
-/
namespace Sys2Proof.Tests
open Sys2Proof.Machine

/-! ## Helpers -/

/-- The start of the vectors of Parts 1 and 2: pc 0x0100, the rest as after reset. -/
def start : State := { State.reset with pc := 0x0100 }

/-- The state with some registers set. -/
def withRegs (rs : List (Reg × Word)) (s : State) : State := rs.foldl (fun t p => t.setReg p.1 p.2) s

/-- The state with some bytes of memory set. -/
def withBytes (bs : List (Word × Byte)) (s : State) : State := bs.foldl (fun t p => t.setMem (t.mem.write8 p.1 p.2)) s

/-- The state with one answer of the environment queued. -/
def answering (vblank collision : Bool) (rnd : Word) (s : State) : State := { s with answers := [⟨vblank, collision, rnd⟩] }

/-- The state with an instruction's bytes at `pc`. -/
def placed (b : InstrBytes) (s : State) : State := s.setMem (s.mem.storeBytes s.pc b)

/-- One step of the state with the bytes at `pc` answers a next state of which `p` is true. -/
def runs (b : InstrBytes) (s : State) (p : State → Bool) : Bool :=
  match step (placed b s) with
  | .next t => p t
  | _ => false

/-- One step of the state with the bytes at `pc` sets this fault record and changes nothing else. -/
def faults (b : InstrBytes) (s : State) (code : FaultCode) : Bool :=
  match step (placed b s) with
  | .next t => decide (t = { placed b s with fault := some ⟨code, s.pc, b⟩ })
  | _ => false

/-- The flags as the vectors write them: C Z O N. -/
def fl (c z o n : Nat) : Flags := ⟨c == 1, z == 1, o == 1, n == 1⟩

/-! ## Words: well-formed, ill-formed, decoded -/

/-- The check of WellFormed.lean accepts a mapped opcode whatever the other bytes (R77, R84; T412's NOP). -/
theorem test_wellFormed_word : (InstrBytes.mk 0x00 0xFF 0xFF 0xFF).WellFormed ∧ (Instr.addi 2 0x0201).WellFormed := by decide

/-- The check refuses an unmapped opcode (R83; the words of T410 and T421, and the edges of R83's ranges). -/
theorem test_illFormed_words :
    ¬ (InstrBytes.mk 0x11 0x00 0x00 0x00).WellFormed ∧ ¬ (InstrBytes.mk 0xC6 0x00 0x00 0x00).WellFormed ∧
    ¬ (InstrBytes.mk 0xFF 0xFF 0xFF 0xFF).WellFormed ∧ ¬ (InstrBytes.mk 0x0F 0x00 0x00 0x00).WellFormed ∧
    ¬ (InstrBytes.mk 0x25 0x00 0x00 0x00).WellFormed := by decide

/-- A refused word is rejected by the name of its opcode (R83). -/
theorem test_decode_unmapped :
    decode ⟨0x11, 0x00, 0x00, 0x00⟩ = .rejected (.unmappedOpcode 0x11) ∧
    decode ⟨0xD0, 0x12, 0x34, 0x56⟩ = .rejected (.unmappedOpcode 0xD0) := by decide

/-- T410: the whole field records of two words. -/
theorem test_decodeFields :
    decodeFields ⟨0x0E, 0xA5, 0x34, 0x12⟩ = ⟨0x0E, 0xA, 5, 0xA5, 0x34, 4, 0x12, 0x09, 0, 0x1234, 0x1234⟩ ∧
    decodeFields ⟨0xFF, 0xFF, 0xFF, 0xFF⟩ = ⟨0xFF, 0xF, 0xF, 0xFF, 0xFF, 0xF, 0xFF, 0x7F, 1, 0xFFFF, 0xFFFF⟩ := by decide

/-- R101 to R115, their examples; T410, T412. -/
theorem test_decode_system :
    decode ⟨0x00, 0xFF, 0xFF, 0xFF⟩ = .instr .nop ∧
    decode ⟨0x01, 0x00, 0x00, 0x00⟩ = .instr .cls ∧
    decode ⟨0x02, 0x00, 0x00, 0x00⟩ = .instr .vblnk ∧
    decode ⟨0x03, 0x00, 0x0A, 0x00⟩ = .instr (.bgc 10) ∧
    decode ⟨0x04, 0x00, 0x08, 0x10⟩ = .instr (.spr 8 16) ∧
    decode ⟨0x05, 0x21, 0x00, 0x30⟩ = .instr (.drwImm 1 2 0x3000) ∧
    decode ⟨0x06, 0x21, 0x03, 0x00⟩ = .instr (.drwReg 1 2 3) ∧
    decode ⟨0x07, 0x03, 0x09, 0x00⟩ = .instr (.rnd 3 9) ∧
    decode ⟨0x08, 0x00, 0x00, 0x03⟩ = .instr (.flip 1 1) ∧
    decode ⟨0x09, 0x00, 0x00, 0x00⟩ = .instr .snd0 ∧
    decode ⟨0x0A, 0x00, 0xF4, 0x01⟩ = .instr (.snd1 500) ∧
    decode ⟨0x0B, 0x00, 0x64, 0x00⟩ = .instr (.snd2 100) ∧
    decode ⟨0x0C, 0x00, 0x0A, 0x00⟩ = .instr (.snd3 10) ∧
    decode ⟨0x0D, 0x04, 0xE8, 0x03⟩ = .instr (.snp 4 1000) ∧
    decode ⟨0x0E, 0x12, 0x34, 0x56⟩ = .instr (.sng 0x12 0x5634) := by decide

/-- R141 to R148, their examples; T413. -/
theorem test_decode_control :
    decode ⟨0x10, 0x00, 0x00, 0x02⟩ = .instr (.jmp 0x0200) ∧
    decode ⟨0x12, 0xF0, 0x00, 0x02⟩ = .instr (.jx 0 0x0200) ∧
    decode ⟨0x13, 0x21, 0x00, 0x01⟩ = .instr (.jme 1 2 0x0100) ∧
    decode ⟨0x14, 0x00, 0x00, 0x03⟩ = .instr (.call 0x0300) ∧
    decode ⟨0x15, 0x00, 0x00, 0x00⟩ = .instr .ret ∧
    decode ⟨0x16, 0x05, 0x00, 0x00⟩ = .instr (.jmpReg 5) ∧
    decode ⟨0x17, 0x03, 0x00, 0x05⟩ = .instr (.cx 3 0x0500) ∧
    decode ⟨0x18, 0x02, 0x00, 0x00⟩ = .instr (.callReg 2) := by decide

/-- R171 to R177, their examples; T403, T414. -/
theorem test_decode_loadStore :
    decode ⟨0x20, 0xF1, 0x34, 0x12⟩ = .instr (.ldi 1 0x1234) ∧
    decode ⟨0x21, 0x00, 0x00, 0xFE⟩ = .instr (.ldiSp 0xFE00) ∧
    decode ⟨0x22, 0x01, 0x00, 0x20⟩ = .instr (.ldm 1 0x2000) ∧
    decode ⟨0x23, 0x21, 0x00, 0x00⟩ = .instr (.ldmReg 1 2) ∧
    decode ⟨0x24, 0x21, 0x00, 0x00⟩ = .instr (.mov 1 2) ∧
    decode ⟨0x30, 0x01, 0xFF, 0xAA⟩ = .instr (.stm 1 0xAAFF) ∧
    decode ⟨0x31, 0x21, 0x00, 0x00⟩ = .instr (.stmReg 1 2) := by decide

/-- R197 to R204, their examples; T402, T404, T415. -/
theorem test_decode_addSub :
    decode ⟨0x40, 0x12, 0x01, 0x02⟩ = .instr (.addi 2 0x0201) ∧
    decode ⟨0x41, 0x21, 0x00, 0x00⟩ = .instr (.add2 1 2) ∧
    decode ⟨0x42, 0x21, 0x03, 0x00⟩ = .instr (.add3 1 2 3) ∧
    decode ⟨0x50, 0x01, 0x03, 0x00⟩ = .instr (.subi 1 3) ∧
    decode ⟨0x51, 0x21, 0x00, 0x00⟩ = .instr (.sub2 1 2) ∧
    decode ⟨0x52, 0x21, 0x03, 0x00⟩ = .instr (.sub3 1 2 3) ∧
    decode ⟨0x53, 0x04, 0x0A, 0x00⟩ = .instr (.cmpi 4 10) ∧
    decode ⟨0x54, 0x21, 0x00, 0x00⟩ = .instr (.cmp 1 2) := by decide

/-- R241 to R251, their examples. -/
theorem test_decode_logic :
    decode ⟨0x60, 0x01, 0xFF, 0x00⟩ = .instr (.andi 1 0x00FF) ∧
    decode ⟨0x61, 0x21, 0x00, 0x00⟩ = .instr (.and2 1 2) ∧
    decode ⟨0x62, 0x21, 0x03, 0x00⟩ = .instr (.and3 1 2 3) ∧
    decode ⟨0x63, 0x01, 0x04, 0x00⟩ = .instr (.tsti 1 4) ∧
    decode ⟨0x64, 0x11, 0x00, 0x00⟩ = .instr (.tst 1 1) ∧
    decode ⟨0x70, 0x01, 0x00, 0x80⟩ = .instr (.ori 1 0x8000) ∧
    decode ⟨0x71, 0x21, 0x00, 0x00⟩ = .instr (.or2 1 2) ∧
    decode ⟨0x72, 0x21, 0x03, 0x00⟩ = .instr (.or3 1 2 3) ∧
    decode ⟨0x80, 0x01, 0xFF, 0xFF⟩ = .instr (.xori 1 0xFFFF) ∧
    decode ⟨0x81, 0x11, 0x00, 0x00⟩ = .instr (.xor2 1 1) ∧
    decode ⟨0x82, 0x21, 0x03, 0x00⟩ = .instr (.xor3 1 2 3) := by decide

/-- R210 to R230, their examples. -/
theorem test_decode_mulDiv :
    decode ⟨0x90, 0x01, 0xC8, 0x00⟩ = .instr (.muli 1 200) ∧
    decode ⟨0x91, 0x21, 0x00, 0x00⟩ = .instr (.mul2 1 2) ∧
    decode ⟨0x92, 0x21, 0x03, 0x00⟩ = .instr (.mul3 1 2 3) ∧
    decode ⟨0xA0, 0x01, 0x02, 0x00⟩ = .instr (.divi 1 2) ∧
    decode ⟨0xA1, 0x21, 0x00, 0x00⟩ = .instr (.div2 1 2) ∧
    decode ⟨0xA2, 0x21, 0x03, 0x00⟩ = .instr (.div3 1 2 3) ∧
    decode ⟨0xA3, 0x01, 0x02, 0x00⟩ = .instr (.modi 1 2) ∧
    decode ⟨0xA4, 0x21, 0x00, 0x00⟩ = .instr (.mod2 1 2) ∧
    decode ⟨0xA5, 0x21, 0x03, 0x00⟩ = .instr (.mod3 1 2 3) ∧
    decode ⟨0xA6, 0x01, 0x02, 0x00⟩ = .instr (.remi 1 2) ∧
    decode ⟨0xA7, 0x21, 0x00, 0x00⟩ = .instr (.rem2 1 2) ∧
    decode ⟨0xA8, 0x21, 0x03, 0x00⟩ = .instr (.rem3 1 2 3) := by decide

/-- R255 to R260, their examples; T410. -/
theorem test_decode_shift :
    decode ⟨0xB0, 0x01, 0xF1, 0x00⟩ = .instr (.shlN 1 1) ∧
    decode ⟨0xB1, 0x01, 0x04, 0x00⟩ = .instr (.shrN 1 4) ∧
    decode ⟨0xB2, 0x01, 0x04, 0x00⟩ = .instr (.sarN 1 4) ∧
    decode ⟨0xB3, 0x21, 0x00, 0x00⟩ = .instr (.shlReg 1 2) ∧
    decode ⟨0xB4, 0x21, 0x00, 0x00⟩ = .instr (.shrReg 1 2) ∧
    decode ⟨0xB5, 0x21, 0x00, 0x00⟩ = .instr (.sarReg 1 2) := by decide

/-- R271 to R276, their examples. -/
theorem test_decode_stack :
    decode ⟨0xC0, 0x01, 0x00, 0x00⟩ = .instr (.push 1) ∧
    decode ⟨0xC1, 0x02, 0x00, 0x00⟩ = .instr (.pop 2) ∧
    decode ⟨0xC2, 0x00, 0x00, 0x00⟩ = .instr .pushall ∧
    decode ⟨0xC3, 0x00, 0x00, 0x00⟩ = .instr .popall ∧
    decode ⟨0xC4, 0x00, 0x00, 0x00⟩ = .instr .pushf ∧
    decode ⟨0xC5, 0x00, 0x00, 0x00⟩ = .instr .popf := by decide

/-- The same words as numbers of the opcode table, `b0` in bits 31..24 (R71): T402, T404, T412, T421. -/
theorem test_decodeTableWord :
    decodeTableWord 32 0x40120102 = some (.addi 2 0x0201) ∧ decodeTableWord 32 0x42210300 = some (.add3 1 2 3) ∧
    decodeTableWord 32 0x0EA53412 = some (.sng 0xA5 0x1234) ∧ decodeTableWord 32 0x11000000 = none := by decide

/-- The host's placing: the very next step runs the word (T402 at reset's pc, where R2 is 5). -/
theorem test_withFetchWord :
    ∃ t, step ((withRegs [(2, 5)] State.reset).withFetchWord 32 0x40120102) = .next t ∧ t.reg 2 = 0x0206 ∧ t.pc = 4 := by
  exact ⟨_, rfl, by decide, by decide⟩

/-! ## Single steps: system and peripheral commands (T408, T412) -/

/-- T412. -/
theorem test_nop : runs ⟨0x00, 0xFF, 0xFF, 0xFF⟩ (start) (fun t =>
    t.pc == 0x0104 && t.cycleCount == 1 && t.history == []) = true := by decide

/-- T412, foreground first. -/
theorem test_cls : runs ⟨0x01, 0x00, 0x00, 0x00⟩ (start) (fun t =>
    t.history == [.clearForeground, .clearBackground] && t.pc == 0x0104) = true := by decide

/-- T408: not ready. -/
theorem test_vblnk_waits : runs ⟨0x02, 0x00, 0x00, 0x00⟩ (answering false true 7 start) (fun t =>
    t.pc == 0x0100 && t.cycleCount == 1 && t.history == [.isVblank false]) = true := by decide

/-- T408: ready. -/
theorem test_vblnk_ready : runs ⟨0x02, 0x00, 0x00, 0x00⟩ (answering true false 7 start) (fun t =>
    t.pc == 0x0104 && t.cycleCount == 1 && t.history == [.isVblank true] && t.answers == []) = true := by decide

/-- T412. -/
theorem test_bgc : runs ⟨0x03, 0x00, 0x1F, 0x00⟩ (start) (fun t =>
    t.history == [.setBackgroundIndex 0xF] && t.pc == 0x0104) = true := by decide

/-- T412. -/
theorem test_spr : runs ⟨0x04, 0x00, 0x10, 0x08⟩ (start) (fun t =>
    t.history == [.setSpriteDimensions 0x10 0x08] && t.pc == 0x0104) = true := by decide

/-- T412. -/
theorem test_drwImm : runs ⟨0x05, 0x21, 0x00, 0x30⟩ (answering false true 0 (withRegs [(1, 10), (2, 20)] start)) (fun t =>
    t.history == [.drawSpriteFromAddress 0x3000 10 20 true] && t.flags == fl 1 0 0 0 && t.pc == 0x0104) = true := by decide

/-- T412: C is cleared by a draw without a collision. -/
theorem test_drwReg : runs ⟨0x06, 0x21, 0x03, 0x00⟩ (answering true false 0 (withRegs [(1, 10), (2, 20), (3, 0x3000)] (start.setFlags (fl 1 0 0 0)))) (fun t =>
    t.history == [.drawSpriteFromRegisterPointer 0x3000 10 20 false] && t.flags == fl 0 0 0 0 && t.pc == 0x0104) = true := by decide

/-- T412. -/
theorem test_rnd : runs ⟨0x07, 0x04, 0xFF, 0x00⟩ (answering false false 0x42 start) (fun t =>
    t.reg 4 == 0x0042 && t.pc == 0x0104 && t.history == []) = true := by decide

/-- T412: 0 is the only value of [0, 0], whatever the draw. -/
theorem test_rnd_zero : runs ⟨0x07, 0x04, 0x00, 0x00⟩ (answering false false 0xFFFF (withRegs [(4, 9)] start)) (fun t =>
    t.reg 4 == 0 && t.pc == 0x0104) = true := by decide

/-- T412. -/
theorem test_flip : runs ⟨0x08, 0x00, 0x00, 0x02⟩ (start) (fun t =>
    t.history == [.setFlip true false] && t.pc == 0x0104) = true := by decide

/-- T410: hflip is 2. -/
theorem test_flip_wide : runs ⟨0x08, 0x00, 0x00, 0x04⟩ (start) (fun t =>
    t.history == [.setFlip true false]) = true := by decide

/-- T412. -/
theorem test_snd0 : runs ⟨0x09, 0x00, 0x00, 0x00⟩ (start) (fun t =>
    t.history == [.stop] && t.pc == 0x0104) = true := by decide

/-- T412. -/
theorem test_snd1 : runs ⟨0x0A, 0x00, 0xE8, 0x03⟩ (start) (fun t =>
    t.history == [.playFixedToneA 1000] && t.pc == 0x0104) = true := by decide

/-- T412. -/
theorem test_snd2 : runs ⟨0x0B, 0x00, 0xF4, 0x01⟩ (start) (fun t =>
    t.history == [.playFixedToneB 500] && t.pc == 0x0104) = true := by decide

/-- T412. -/
theorem test_snd3 : runs ⟨0x0C, 0x00, 0x00, 0x00⟩ (start) (fun t =>
    t.history == [.playFixedToneC 0] && t.pc == 0x0104) = true := by decide

/-- T412. -/
theorem test_snp : runs ⟨0x0D, 0x01, 0x64, 0x00⟩ (withRegs [(1, 7)] start) (fun t =>
    t.history == [.playTone 7 100] && t.pc == 0x0104) = true := by decide

/-- T412. -/
theorem test_sng : runs ⟨0x0E, 0xA5, 0x34, 0x12⟩ (start) (fun t =>
    t.history == [.setupEnvelope 0xA5 0x1234] && t.pc == 0x0104) = true := by decide

/-! ## Single steps: control transfer (T405, T413) -/

/-- T413. -/
theorem test_jmp_back : runs ⟨0x10, 0x00, 0x50, 0x00⟩ (start) (fun t =>
    t.pc == 0x0050 && t.cycleCount == 1) = true := by decide

/-- T413. -/
theorem test_jmp_wraps : runs ⟨0x10, 0x00, 0x04, 0x00⟩ ({ start with pc := 0xFFFC }) (fun t =>
    t.pc == 0x0004) = true := by decide

/-- T413: x is 0, the ignored bits are not. -/
theorem test_jx_zero : runs ⟨0x12, 0xF0, 0x00, 0x02⟩ (start) (fun t =>
    t.pc == 0x0104) = true := by decide

/-- T413: all flags 0. -/
theorem test_jx_taken : runs ⟨0x12, 0x0F, 0x00, 0x02⟩ (start) (fun t =>
    t.pc == 0x0200 && t.cycleCount == 1) = true := by decide

/-- T413. -/
theorem test_jme_equal : runs ⟨0x13, 0x21, 0x00, 0x02⟩ (withRegs [(1, 7), (2, 7)] start) (fun t =>
    t.pc == 0x0200) = true := by decide

/-- T413. -/
theorem test_jme_not_equal : runs ⟨0x13, 0x21, 0x00, 0x02⟩ (withRegs [(1, 7), (2, 8)] start) (fun t =>
    t.pc == 0x0104) = true := by decide

/-- T405. -/
theorem test_call : runs ⟨0x14, 0x00, 0x00, 0x03⟩ (start) (fun t =>
    t.mem.read8 0xFDF0 == 0x04 && t.mem.read8 0xFDF1 == 0x01 && t.sp == 0xFDF2 && t.pc == 0x0300) = true := by decide

/-- T413: the return address is 0. -/
theorem test_call_wraps : runs ⟨0x14, 0x00, 0x00, 0x03⟩ (withBytes [(0xFDF0, 0xFF), (0xFDF1, 0xFF)] { start with pc := 0xFFFC }) (fun t =>
    t.mem.read8 0xFDF0 == 0 && t.mem.read8 0xFDF1 == 0 && t.sp == 0xFDF2 && t.pc == 0x0300) = true := by decide

/-- T413. -/
theorem test_ret : runs ⟨0x15, 0x00, 0x00, 0x00⟩ (withBytes [(0xFDF0, 0x04), (0xFDF1, 0x01)] { start with pc := 0x0300, sp := 0xFDF2 }) (fun t =>
    t.sp == 0xFDF0 && t.pc == 0x0104 && t.mem.read8 0xFDF0 == 4) = true := by decide

/-- T413. -/
theorem test_ret_wraps : runs ⟨0x15, 0x00, 0x00, 0x00⟩ (withBytes [(0xFFFE, 0x00), (0xFFFF, 0x20)] { start with sp := 0 }) (fun t =>
    t.sp == 0xFFFE && t.pc == 0x2000) = true := by decide

/-- T413: an odd target. -/
theorem test_jmpReg : runs ⟨0x16, 0x03, 0x00, 0x00⟩ (withRegs [(3, 1)] start) (fun t =>
    t.pc == 0x0001) = true := by decide

/-- T413. -/
theorem test_cx_zero : runs ⟨0x17, 0x00, 0x00, 0x05⟩ (start) (fun t =>
    t.pc == 0x0104 && t.sp == 0xFDF0 && t.mem.read8 0xFDF0 == 0) = true := by decide

/-- T413. -/
theorem test_cx_taken : runs ⟨0x17, 0x03, 0x00, 0x05⟩ ({ start with pc := 0x0020 }) (fun t =>
    t.mem.read8 0xFDF0 == 0x24 && t.mem.read8 0xFDF1 == 0 && t.sp == 0xFDF2 && t.pc == 0x0500) = true := by decide

/-- T413. -/
theorem test_callReg : runs ⟨0x18, 0x02, 0x00, 0x00⟩ (withRegs [(2, 0x0800)] start) (fun t =>
    t.mem.read8 0xFDF0 == 0x04 && t.mem.read8 0xFDF1 == 0x01 && t.sp == 0xFDF2 && t.pc == 0x0800) = true := by decide

/-! ## Single steps: loads, stores and moves (T403, T414) -/

/-- T414: the high nibble of b1 is ignored. -/
theorem test_ldi : runs ⟨0x20, 0xF1, 0x34, 0x12⟩ (start) (fun t =>
    t.reg 1 == 0x1234 && t.pc == 0x0104) = true := by decide

/-- T414. -/
theorem test_ldiSp : runs ⟨0x21, 0x00, 0x00, 0xF0⟩ (start) (fun t =>
    t.sp == 0xF000 && t.pc == 0x0104) = true := by decide

/-- T414. -/
theorem test_ldm_wraps : runs ⟨0x22, 0x01, 0xFF, 0xFF⟩ (withBytes [(0xFFFF, 0xCD), (0, 0xAB)] start) (fun t =>
    t.reg 1 == 0xABCD && t.pc == 0x0104) = true := by decide

/-- T414. -/
theorem test_ldmReg_odd : runs ⟨0x23, 0x21, 0x00, 0x00⟩ (withBytes [(0x3001, 0x22), (0x3002, 0x11)] (withRegs [(2, 0x3001)] start)) (fun t =>
    t.reg 1 == 0x1122 && t.pc == 0x0104) = true := by decide

/-- T414: the address is read first. -/
theorem test_ldmReg_same : runs ⟨0x23, 0x11, 0x00, 0x00⟩ (withBytes [(0x3001, 0x22), (0x3002, 0x11)] (withRegs [(1, 0x3001)] start)) (fun t =>
    t.reg 1 == 0x1122) = true := by decide

/-- T414: a copy, no flag changes. -/
theorem test_mov : runs ⟨0x24, 0x21, 0x00, 0x00⟩ (withRegs [(2, 0x8000)] (start.setFlags (fl 1 1 1 1))) (fun t =>
    t.reg 1 == 0x8000 && t.flags == fl 1 1 1 1 && t.pc == 0x0104) = true := by decide

/-- T403. -/
theorem test_stm : runs ⟨0x30, 0x01, 0xFF, 0xAA⟩ (withBytes [(0xAB00, 0x77)] (withRegs [(1, 0x00DE)] start)) (fun t =>
    t.mem.read8 0xAAFF == 0xDE && t.mem.read8 0xAB00 == 0 && t.pc == 0x0104) = true := by decide

/-- T414. -/
theorem test_stmReg_wraps : runs ⟨0x31, 0x21, 0x00, 0x00⟩ (withRegs [(1, 0xA1B2), (2, 0xFFFF)] start) (fun t =>
    t.mem.read8 0xFFFF == 0xB2 && t.mem.read8 0 == 0xA1 && t.pc == 0x0104) = true := by decide

/-- T414. -/
theorem test_stmReg_same : runs ⟨0x31, 0x11, 0x00, 0x00⟩ (withRegs [(1, 0x2000)] start) (fun t =>
    t.mem.read8 0x2000 == 0 && t.mem.read8 0x2001 == 0x20) = true := by decide

/-! ## Single steps: arithmetic (T402, T404, T407, T415 to T417) -/

/-- T407. -/
theorem test_addi_overflow : runs ⟨0x40, 0x01, 0x01, 0x00⟩ (withRegs [(1, 0x7FFF)] start) (fun t =>
    t.reg 1 == 0x8000 && t.flags == fl 0 0 1 1 && t.pc == 0x0104) = true := by decide

/-- T415. -/
theorem test_addi_zero : runs ⟨0x40, 0x01, 0x00, 0x00⟩ (start) (fun t =>
    t.reg 1 == 0 && t.flags == fl 0 1 0 0) = true := by decide

/-- T415: Z is on the raw sum. -/
theorem test_add2_rawZero : runs ⟨0x41, 0x21, 0x00, 0x00⟩ (withRegs [(1, 0xFFFF), (2, 1)] start) (fun t =>
    t.reg 1 == 0 && t.flags == fl 1 0 0 0) = true := by decide

/-- T415. -/
theorem test_add2_overflow : runs ⟨0x41, 0x21, 0x00, 0x00⟩ (withRegs [(1, 0x8000), (2, 0x8000)] start) (fun t =>
    t.reg 1 == 0 && t.flags == fl 1 0 1 0) = true := by decide

/-- T404. -/
theorem test_add3 : runs ⟨0x42, 0x21, 0x03, 0x00⟩ (withRegs [(1, 2), (2, 5)] start) (fun t =>
    t.reg 3 == 7 && t.reg 1 == 2 && t.reg 2 == 5 && t.flags == fl 0 0 0 0) = true := by decide

/-- T415: x = y = z. -/
theorem test_add3_same : runs ⟨0x42, 0x11, 0x01, 0x00⟩ (withRegs [(1, 0x4000)] start) (fun t =>
    t.reg 1 == 0x8000 && t.flags == fl 0 0 1 1) = true := by decide

/-- T415. -/
theorem test_subi_borrow : runs ⟨0x50, 0x01, 0x01, 0x00⟩ (start) (fun t =>
    t.reg 1 == 0xFFFF && t.flags == fl 1 0 0 1) = true := by decide

/-- R200, its example. -/
theorem test_subi : runs ⟨0x50, 0x01, 0x03, 0x00⟩ (withRegs [(1, 5)] start) (fun t =>
    t.reg 1 == 2 && t.flags == fl 0 0 0 0) = true := by decide

/-- T415. -/
theorem test_sub2_overflow : runs ⟨0x51, 0x21, 0x00, 0x00⟩ (withRegs [(1, 0x8000), (2, 1)] start) (fun t =>
    t.reg 1 == 0x7FFF && t.flags == fl 0 0 1 0) = true := by decide

/-- T415. -/
theorem test_sub2_mirror : runs ⟨0x51, 0x21, 0x00, 0x00⟩ (withRegs [(1, 0x7FFF), (2, 0xFFFF)] start) (fun t =>
    t.reg 1 == 0x8000 && t.flags == fl 1 0 1 1) = true := by decide

/-- T415. -/
theorem test_sub3 : runs ⟨0x52, 0x21, 0x03, 0x00⟩ (withRegs [(1, 3), (2, 5)] start) (fun t =>
    t.reg 3 == 0xFFFE && t.reg 1 == 3 && t.reg 2 == 5 && t.flags == fl 1 0 0 1) = true := by decide

/-- T415. -/
theorem test_cmpi : runs ⟨0x53, 0x01, 0x10, 0x00⟩ (withRegs [(1, 0x0010)] start) (fun t =>
    t.reg 1 == 0x0010 && t.flags == fl 0 1 0 0) = true := by decide

/-- T415. -/
theorem test_cmp : runs ⟨0x54, 0x21, 0x00, 0x00⟩ (withRegs [(1, 1), (2, 2)] start) (fun t =>
    t.reg 1 == 1 && t.flags == fl 1 0 0 1) = true := by decide

/-- T416: Z is on the raw product, O is kept. -/
theorem test_muli_rawZero : runs ⟨0x90, 0x01, 0x00, 0x01⟩ (withRegs [(1, 0x0100)] (start.setFlags (fl 0 0 1 0))) (fun t =>
    t.reg 1 == 0 && t.flags == fl 1 0 1 0) = true := by decide

/-- T416. -/
theorem test_mul2_low : runs ⟨0x91, 0x21, 0x00, 0x00⟩ (withRegs [(1, 0xFFFF), (2, 0xFFFF)] start) (fun t =>
    t.reg 1 == 1 && t.flags == fl 1 0 0 0) = true := by decide

/-- T416. -/
theorem test_mul2_negative : runs ⟨0x91, 0x21, 0x00, 0x00⟩ (withRegs [(1, 0x00FF), (2, 0x0081)] start) (fun t =>
    t.reg 1 == 0x807F && t.flags == fl 0 0 0 1) = true := by decide

/-- T416. -/
theorem test_mul3_zero : runs ⟨0x92, 0x21, 0x03, 0x00⟩ (withRegs [(2, 0x1234), (3, 9)] start) (fun t =>
    t.reg 3 == 0 && t.flags == fl 0 1 0 0) = true := by decide

/-- R221, its example. -/
theorem test_divi : runs ⟨0xA0, 0x01, 0x02, 0x00⟩ (withRegs [(1, 7)] start) (fun t =>
    t.reg 1 == 3 && t.flags == fl 1 0 0 0) = true := by decide

/-- T417. -/
theorem test_div2_unsigned : runs ⟨0xA1, 0x21, 0x00, 0x00⟩ (withRegs [(1, 0x8000), (2, 3)] start) (fun t =>
    t.reg 1 == 0x2AAA && t.flags == fl 1 0 0 0) = true := by decide

/-- T417. -/
theorem test_div3_clears_carry : runs ⟨0xA2, 0x21, 0x03, 0x00⟩ (withRegs [(2, 7), (3, 9)] (start.setFlags (fl 1 0 0 0))) (fun t =>
    t.reg 3 == 0 && t.flags == fl 0 1 0 0) = true := by decide

/-- T417. -/
theorem test_modi_keeps_carry : runs ⟨0xA3, 0x01, 0x03, 0x00⟩ (withRegs [(1, 10)] (start.setFlags (fl 1 0 0 0))) (fun t =>
    t.reg 1 == 1 && t.flags == fl 1 0 0 0) = true := by decide

/-- T417. -/
theorem test_mod2_negative : runs ⟨0xA4, 0x21, 0x00, 0x00⟩ (withRegs [(1, 0x9000), (2, 0xA000)] start) (fun t =>
    t.reg 1 == 0x9000 && t.flags == fl 0 0 0 1) = true := by decide

/-- T417. -/
theorem test_mod3 : runs ⟨0xA5, 0x21, 0x03, 0x00⟩ (withRegs [(1, 0xFFFF), (2, 16)] start) (fun t =>
    t.reg 3 == 15 && t.reg 1 == 0xFFFF && t.flags == fl 0 0 0 0) = true := by decide

/-- T417. -/
theorem test_remi : runs ⟨0xA6, 0x01, 0x04, 0x00⟩ (withRegs [(1, 12)] start) (fun t =>
    t.reg 1 == 0 && t.flags == fl 0 1 0 0) = true := by decide

/-- T417. -/
theorem test_rem2 : runs ⟨0xA7, 0x21, 0x00, 0x00⟩ (withRegs [(1, 0xFFFE), (2, 7)] start) (fun t =>
    t.reg 1 == 0 && t.flags == fl 0 1 0 0) = true := by decide

/-- R230, its example. -/
theorem test_rem3 : runs ⟨0xA8, 0x21, 0x03, 0x00⟩ (withRegs [(1, 9), (2, 9), (3, 1)] start) (fun t =>
    t.reg 3 == 0 && t.flags == fl 0 1 0 0) = true := by decide

/-! ## Single steps: logic and shifts (T418, T419) -/

/-- T418. -/
theorem test_andi : runs ⟨0x60, 0x01, 0xF0, 0x0F⟩ (withRegs [(1, 0xF0F0)] start) (fun t =>
    t.reg 1 == 0x00F0 && t.flags == fl 0 0 0 0) = true := by decide

/-- T418. -/
theorem test_and2_keeps : runs ⟨0x61, 0x21, 0x00, 0x00⟩ (withRegs [(1, 0x8000), (2, 0xFFFF)] (start.setFlags (fl 1 0 1 0))) (fun t =>
    t.reg 1 == 0x8000 && t.flags == fl 1 0 1 1) = true := by decide

/-- T418. -/
theorem test_and3 : runs ⟨0x62, 0x21, 0x03, 0x00⟩ (withRegs [(1, 0x00FF), (2, 0xFF00), (3, 5)] start) (fun t =>
    t.reg 3 == 0 && t.flags == fl 0 1 0 0) = true := by decide

/-- T418. -/
theorem test_tsti : runs ⟨0x63, 0x01, 0x01, 0x00⟩ (withRegs [(1, 2)] start) (fun t =>
    t.reg 1 == 2 && t.flags == fl 0 1 0 0) = true := by decide

/-- T418. -/
theorem test_tst : runs ⟨0x64, 0x21, 0x00, 0x00⟩ (withRegs [(1, 0x8001), (2, 0x8000)] start) (fun t =>
    t.reg 1 == 0x8001 && t.flags == fl 0 0 0 1) = true := by decide

/-- T418. -/
theorem test_ori : runs ⟨0x70, 0x01, 0x00, 0x80⟩ (withRegs [(1, 1)] start) (fun t =>
    t.reg 1 == 0x8001 && t.flags == fl 0 0 0 1) = true := by decide

/-- T418. -/
theorem test_or2 : runs ⟨0x71, 0x21, 0x00, 0x00⟩ (start) (fun t =>
    t.reg 1 == 0 && t.flags == fl 0 1 0 0) = true := by decide

/-- T418. -/
theorem test_or3 : runs ⟨0x72, 0x21, 0x03, 0x00⟩ (withRegs [(1, 0x0F00), (2, 0x00F0)] start) (fun t =>
    t.reg 3 == 0x0FF0 && t.flags == fl 0 0 0 0) = true := by decide

/-- T418. -/
theorem test_xori : runs ⟨0x80, 0x01, 0xFF, 0xFF⟩ (withRegs [(1, 0x1234)] start) (fun t =>
    t.reg 1 == 0xEDCB && t.flags == fl 0 0 0 1) = true := by decide

/-- T418. -/
theorem test_xor2 : runs ⟨0x81, 0x11, 0x00, 0x00⟩ (withRegs [(1, 0xBEEF)] start) (fun t =>
    t.reg 1 == 0 && t.flags == fl 0 1 0 0) = true := by decide

/-- T418. -/
theorem test_xor3 : runs ⟨0x82, 0x21, 0x03, 0x00⟩ (withRegs [(1, 0xAAAA), (2, 0x5555)] start) (fun t =>
    t.reg 3 == 0xFFFF && t.flags == fl 0 0 0 1) = true := by decide

/-- T419. -/
theorem test_shlN_keeps_carry : runs ⟨0xB0, 0x01, 0x01, 0x00⟩ (withRegs [(1, 0x8001)] (start.setFlags (fl 1 0 1 0))) (fun t =>
    t.reg 1 == 2 && t.flags == fl 1 0 1 0) = true := by decide

/-- T419: n is 1. -/
theorem test_shlN_nibble : runs ⟨0xB0, 0x01, 0xF1, 0x00⟩ (withRegs [(1, 0x4000)] start) (fun t =>
    t.reg 1 == 0x8000 && t.flags == fl 0 0 0 1) = true := by decide

/-- T419. -/
theorem test_shrN : runs ⟨0xB1, 0x01, 0x0F, 0x00⟩ (withRegs [(1, 0x8000)] start) (fun t =>
    t.reg 1 == 1 && t.flags == fl 0 0 0 0) = true := by decide

/-- T419. -/
theorem test_sarN_negative : runs ⟨0xB2, 0x01, 0x0F, 0x00⟩ (withRegs [(1, 0x8000)] start) (fun t =>
    t.reg 1 == 0xFFFF && t.flags == fl 0 0 0 1) = true := by decide

/-- T419. -/
theorem test_sarN_positive : runs ⟨0xB2, 0x01, 0x04, 0x00⟩ (withRegs [(1, 0x7FF0)] start) (fun t =>
    t.reg 1 == 0x07FF && t.flags == fl 0 0 0 0) = true := by decide

/-- T419. -/
theorem test_shlReg_16 : runs ⟨0xB3, 0x21, 0x00, 0x00⟩ (withRegs [(1, 0xFFFF), (2, 16)] start) (fun t =>
    t.reg 1 == 0 && t.flags == fl 0 1 0 0) = true := by decide

/-- T419. -/
theorem test_shrReg_0 : runs ⟨0xB4, 0x21, 0x00, 0x00⟩ (withRegs [(1, 0x8000), (2, 0)] start) (fun t =>
    t.reg 1 == 0x8000 && t.flags == fl 0 0 0 1) = true := by decide

/-- T419. -/
theorem test_sarReg_unmasked : runs ⟨0xB5, 0x21, 0x00, 0x00⟩ (withRegs [(1, 0xF000), (2, 0x0100)] start) (fun t =>
    t.reg 1 == 0xFFFF && t.flags == fl 0 0 0 1) = true := by decide

/-- T419: the count is the old R1. -/
theorem test_sarReg_same : runs ⟨0xB5, 0x11, 0x00, 0x00⟩ (withRegs [(1, 3)] start) (fun t =>
    t.reg 1 == 0 && t.flags == fl 0 1 0 0) = true := by decide

/-! ## Single steps: the stack (T406, T420) -/

/-- T420. -/
theorem test_push_wraps : runs ⟨0xC0, 0x01, 0x00, 0x00⟩ (withRegs [(1, 0x1234)] { start with sp := 0xFFFF }) (fun t =>
    t.mem.read8 0xFFFF == 0x34 && t.mem.read8 0 == 0x12 && t.sp == 1 && t.pc == 0x0104) = true := by decide

/-- T420. -/
theorem test_pop_wraps : runs ⟨0xC1, 0x02, 0x00, 0x00⟩ (withBytes [(0xFFFE, 0x78), (0xFFFF, 0x56)] { start with sp := 0 }) (fun t =>
    t.reg 2 == 0x5678 && t.sp == 0xFFFE && t.pc == 0x0104) = true := by decide

/-- T406: the registers hold 0x1000 + i. -/
def numbered (s : State) : State := { s with regs := Vector.ofFn fun i : Fin 16 => 0x1000 + BitVec.ofNat 16 i.val }

/-- T420, with the registers of T406. -/
theorem test_pushall_wraps : runs ⟨0xC2, 0x00, 0x00, 0x00⟩ (numbered { start with sp := 0xFFF0 }) (fun t =>
    t.mem.read16 0xFFF0 == 0x1000 && t.mem.read16 0xFFFE == 0x1007 && t.mem.read16 0 == 0x1008 && t.mem.read16 0x000E == 0x100F && t.sp == 0x0010 && t.pc == 0x0104) = true := by decide

/-- T406 and R274: R15 is the first word below sp, R0 the last. -/
theorem test_popall : runs ⟨0xC3, 0x00, 0x00, 0x00⟩ (withBytes [(0xFE0E, 0x0F), (0xFE0F, 0x10), (0xFDF0, 0x00), (0xFDF1, 0x10)] { start with sp := 0xFE10 }) (fun t =>
    t.reg 15 == 0x100F && t.reg 0 == 0x1000 && t.reg 7 == 0 && t.sp == 0xFDF0 && t.pc == 0x0104) = true := by decide

/-- T420. -/
theorem test_pushf : runs ⟨0xC4, 0x00, 0x00, 0x00⟩ (start.setFlags (fl 1 0 1 1)) (fun t =>
    t.mem.read8 0xFDF0 == 0xC2 && t.mem.read8 0xFDF1 == 0 && t.sp == 0xFDF2 && t.flags == fl 1 0 1 1) = true := by decide

/-- T420. -/
theorem test_popf_clears : runs ⟨0xC5, 0x00, 0x00, 0x00⟩ (withBytes [(0xFDF0, 0x39), (0xFDF1, 0xFF)] (State.setFlags { start with sp := 0xFDF2 } (fl 1 1 1 1))) (fun t =>
    t.flags == fl 0 0 0 0 && t.sp == 0xFDF0) = true := by decide

/-- T420. -/
theorem test_popf_sets : runs ⟨0xC5, 0x00, 0x00, 0x00⟩ (withBytes [(0xFDF0, 0x06)] { start with sp := 0xFDF2 }) (fun t =>
    t.flags == fl 1 1 0 0 && t.sp == 0xFDF0) = true := by decide

/-! ## The engine and its faults (T411, T417, T421) -/

/-- T421: an unmapped opcode sets fault 1 and nothing else, and its number is 1 (R300). -/
theorem test_fault_unmapped :
    faults ⟨0x11, 0x00, 0x00, 0x00⟩ start .unmappedOpcode = true ∧ faults ⟨0xC6, 0x00, 0x00, 0x00⟩ start .unmappedOpcode = true ∧
    FaultCode.number .unmappedOpcode = 1 := by decide

/-- T417: a division by 0 sets fault 2 and nothing else, and its number is 2 (R300). -/
theorem test_fault_divi_zero :
    faults ⟨0xA0, 0x01, 0x00, 0x00⟩ (withRegs [(1, 7)] start) .divideByZero = true ∧ FaultCode.number .divideByZero = 2 := by
  decide

/-- T417: REM with the divisor register 0; R3 stays 0x1111. -/
theorem test_fault_rem3_zero :
    faults ⟨0xA8, 0x21, 0x03, 0x00⟩ (withRegs [(1, 5), (3, 0x1111)] start) .divideByZero = true := by decide

/-- T421: a further step of a faulted state changes nothing. -/
theorem test_faulted_step :
    step { start with fault := some ⟨.unmappedOpcode, 0x0100, ⟨0x11, 0, 0, 0⟩⟩ } =
      .next { start with fault := some ⟨.unmappedOpcode, 0x0100, ⟨0x11, 0, 0, 0⟩⟩ } := rfl

/-- T411: a fetch at 0xFFFE reads 0xFFFE, 0xFFFF, 0x0000 and 0x0001, in that order. -/
theorem test_fetch_wraps :
    (withBytes [(0xFFFE, 0x20), (0xFFFF, 0x03), (0, 0x34), (1, 0x12)] { start with pc := 0xFFFE }).fetchBytes =
      ⟨0x20, 0x03, 0x34, 0x12⟩ := by decide

/-- T400, T411: the byte order of a word at an ordinary and at the top address; one stored byte changes one cell. -/
theorem test_memory_words :
    (Memory.write16 [] 0x1000 0xFFAA).read8 0x1000 = 0xAA ∧ (Memory.write16 [] 0x1000 0xFFAA).read8 0x1001 = 0xFF ∧
    (Memory.write16 [] 0xFFFF 0x1234).read8 0 = 0x12 ∧ (Memory.write16 [] 0xFFFF 0x1234).read16 0xFFFF = 0x1234 ∧
    (Memory.write8 [(5, 1)] 4 0xAB) = [(4, 0xAB), (5, 1)] ∧ Memory.write8 [(5, 1)] 5 0 = [] := by decide

/-! ## The driver port and the ROM file -/

/-- T401. -/
theorem test_readRegisterSigned :
    Driver.readRegisterSigned (Driver.writeRegister start 3 0xFFFF) 3 = -1 ∧
    Driver.readRegisterSigned (Driver.writeRegister start 3 0x7FFF) 3 = 32767 ∧
    Driver.readRegisterSigned (Driver.writeRegister start 3 0x8000) 3 = -32768 := by decide

/-- R331: the fields of a header in its order, then the payload. -/
theorem test_splitRom :
    splitRom [0x43, 0x48, 0x31, 0x36, 0x00, 0x11, 0x02, 0x01, 0x00, 0x00, 0x34, 0x12, 0x78, 0x56, 0x34, 0x12, 0xAA, 0xBB] =
      some (⟨[0x43, 0x48, 0x31, 0x36], 0x00, 0x11, 0x102, 0x1234, 0x12345678⟩, [0xAA, 0xBB]) := by decide

/-- R334: the two stop predicates, on a jump to itself (T413) and on a faulted state. -/
theorem test_stop_predicates :
    Driver.stopsOnJumpToSelf (placed ⟨0x10, 0x00, 0x00, 0x01⟩ start) = true ∧
    Driver.stopsOnJumpToSelf (placed ⟨0x10, 0x00, 0x50, 0x00⟩ start) = false ∧
    Driver.stopsOnFault (start.raise .divideByZero) = true ∧ Driver.stopsOnFault start = false := by decide

/-- R334: a run stops where its predicate holds, and after its bound. -/
theorem test_run_stops :
    Driver.run Driver.stopsOnJumpToSelf 9 (placed ⟨0x10, 0x00, 0x00, 0x01⟩ start) =
      .next (placed ⟨0x10, 0x00, 0x00, 0x01⟩ start) ∧
    Driver.run (fun _ => false) 1 (placed ⟨0x10, 0x00, 0x00, 0x01⟩ start) =
      .next { placed ⟨0x10, 0x00, 0x00, 0x01⟩ start with cycleCount := 1 } := ⟨rfl, rfl⟩

/-- R86: the line of `12 01 00 01`, and lines of the programs T430 to T432. -/
theorem test_assembly :
    (decode ⟨0x12, 0x01, 0x00, 0x01⟩ = .instr (.jx 1 0x0100) ∧ assemblyLine (.jx 1 0x0100) = "J1 0x0100") ∧
    assemblyLine (.ldi 1 0xBEEF) = "LDI R1,0xBEEF" ∧ assemblyLine (.stmReg 1 2) = "STM R1,R2" ∧
    assemblyLine (.jme 1 2 0x001C) = "JME R1,R2,0x001C" ∧ assemblyLine (.ldiSp 0xFE00) = "LDI SP,0xFE00" := by decide

/-- R30, R305: a run that ends in a faulted state is a fault, one that ends in a running state is not. -/
theorem test_runResult :
    runResult (.next start) = .next start ∧
    runResult (.next { start with fault := some ⟨.divideByZero, 0, ⟨0, 0, 0, 0⟩⟩ }) =
      .fault (.engineStopped ⟨.divideByZero, 0, ⟨0, 0, 0, 0⟩⟩) := ⟨rfl, rfl⟩

/-! ## Witnesses: each shows a concrete state and operands that meet all the hypotheses of the statement it names, one for each
clause, at the edge of the clause's range. None proves a statement. -/

/-- Two states to step from: the DIVI of T417 with the divisor 0, and JMP to itself (T413). -/
def aboutToFault : State := placed ⟨0xA0, 0x01, 0x00, 0x00⟩ start
def aboutToJump : State := placed ⟨0x10, 0x00, 0x00, 0x01⟩ start

/-- DecodeOfEncode, with the operands at their greatest values. -/
theorem test_witness_DecodeOfEncode :
    (Instr.flip 0x7F 1).WellFormed ∧ (Instr.drwReg 15 15 15).WellFormed ∧ (Instr.sng 0xFF 0xFFFF).WellFormed := by decide

/-- EncodeOfDecode: a word with ignored bits set. -/
theorem test_witness_EncodeOfDecode : decode ⟨0xB0, 0x01, 0xF1, 0x00⟩ = .instr (.shlN 1 1) := by decide

/-- IgnoredBitsHaveNoEffect: two words of SHL R1,1 that differ in every ignored bit. -/
theorem test_witness_IgnoredBitsHaveNoEffect :
    decode ⟨0xB0, 0x01, 0x01, 0x00⟩ = .instr (.shlN 1 1) ∧
    (InstrBytes.mk 0xB0 0xF1 0xF1 0xFF).masked (formatOf (.shlN 1 1)).mask =
      (InstrBytes.mk 0xB0 0x01 0x01 0x00).masked (formatOf (.shlN 1 1)).mask := by decide

/-- UnmappedOpcodesRejected: the opcodes on both sides of the ends of two ranges of R83. -/
theorem test_witness_UnmappedOpcodesRejected :
    opcodeUnmapped 0x0F = true ∧ opcodeUnmapped 0x19 = true ∧ opcodeUnmapped 0x1F = true ∧ opcodeUnmapped 0xFF = true ∧
    opcodeUnmapped 0x0E = false ∧ opcodeUnmapped 0x10 = false ∧ opcodeUnmapped 0x18 = false ∧ opcodeUnmapped 0x20 = false := by
  decide

/-- WordStoreThenLoad: a byte outside a word stored at the top of memory. -/
theorem test_witness_WordStoreThenLoad : (0x0001 : Word) ≠ 0xFFFF ∧ (0x0001 : Word) ≠ 0xFFFF + 1 := by decide

/-- CanonicalMemoriesEqual: two canonical memories that read alike. -/
theorem test_witness_CanonicalMemoriesEqual :
    Memory.wf [(0, 1), (65535, 2)] ∧
    ∀ a : Word, Memory.read8 (Memory.write8 [(0, 1), (5, 3), (65535, 2)] 5 0) a = Memory.read8 [(0, 1), (65535, 2)] a :=
  ⟨by decide, fun _ => rfl⟩

/-- StepRunsDecodedInstruction. -/
theorem test_witness_StepRunsDecodedInstruction :
    aboutToJump.fault = none ∧ decode aboutToJump.fetchBytes = .instr (.jmp 0x0100) ∧ (Instr.jmp 0x0100).WellFormed := by decide

/-- UnmappedOpcodeFaults, at the top of memory. -/
theorem test_witness_UnmappedOpcodeFaults :
    (placed ⟨0xC6, 0, 0, 0⟩ { start with pc := 0xFFFF }).fault = none ∧
    opcodeUnmapped ((placed ⟨0xC6, 0, 0, 0⟩ { start with pc := 0xFFFF }).mem.read8 0xFFFF) = true := by decide

/-- FaultedStepChangesNothing: a faulted state, and a ROM image of the greatest length. -/
theorem test_witness_FaultedStepChangesNothing :
    (aboutToFault.raise .divideByZero).fault = some ⟨.divideByZero, 0x0100, ⟨0xA0, 0x01, 0x00, 0x00⟩⟩ ∧
    (List.replicate 65536 (0 : Byte)).length ≤ 65536 := ⟨by decide, by rw [List.length_replicate]⟩

/-- StepCommitsOrFaultsPrecisely: a running state whose step commits, and one whose step faults. -/
theorem test_witness_StepCommitsOrFaultsPrecisely :
    (aboutToJump.fault = none ∧ step aboutToJump = .next { aboutToJump with cycleCount := 1 }) ∧
    (aboutToFault.fault = none ∧ step aboutToFault = .next (aboutToFault.raise .divideByZero)) :=
  ⟨⟨rfl, rfl⟩, rfl, rfl⟩

/-- StepKeepsInvariant: a step that commits and a step that faults, from states with the invariant. -/
theorem test_witness_StepKeepsInvariant_running :
    (aboutToJump.Inv ∧ ∃ t, step aboutToJump = .next t) ∧ (aboutToFault.Inv ∧ ∃ t, step aboutToFault = .next t) :=
  ⟨⟨⟨by decide, fun _ h => nomatch h⟩, _, rfl⟩, ⟨by decide, fun _ h => nomatch h⟩, _, rfl⟩

/-- StepKeepsInvariant: a step of a faulted state with the invariant. -/
theorem test_witness_StepKeepsInvariant_faulted :
    (aboutToFault.raise .divideByZero).Inv ∧ ∃ t, step (aboutToFault.raise .divideByZero) = .next t :=
  ⟨⟨by decide, fun _ h => by cases h; exact ⟨rfl, rfl, .divi 1 0, by decide, by decide⟩⟩, _, rfl⟩

/-- ResetMeetsInvariant: the driver's reset answers a state. -/
theorem test_witness_ResetMeetsInvariant :
    ∃ t, Driver.reset (fun _ => 0xBEEF) (fun _ => 0xFF) [0x10, 0x00] start = .next t := ⟨_, if_pos (by decide)⟩

/-- DivideByZeroFaults: an immediate divisor 0, a register divisor 0, and an instruction without a divisor. -/
theorem test_witness_DivideByZeroFaults :
    (aboutToFault.fault = none ∧ decode aboutToFault.fetchBytes = .instr (.divi 1 0) ∧
      Instr.divi 1 0 ∈ [Instr.divi 1 0, .modi 1 0, .remi 1 0]) ∧
    ((placed ⟨0xA8, 0x21, 0x03, 0x00⟩ start).fault = none ∧ (placed ⟨0xA8, 0x21, 0x03, 0x00⟩ start).reg 2 = 0 ∧
      decode (placed ⟨0xA8, 0x21, 0x03, 0x00⟩ start).fetchBytes = .instr (.rem3 1 2 3)) ∧
    (divisorOf .nop start = none ∧ ∃ t, exec .nop start = .next t) :=
  ⟨by decide, by decide, rfl, _, rfl⟩

/-- OnlyDivisionByZeroFaults: an execution that changes the fault status. -/
theorem test_witness_OnlyDivisionByZeroFaults :
    ∃ t, exec (.rem2 1 2) start = .next t ∧ t.fault ≠ start.fault := ⟨_, rfl, by decide⟩

/-- DriverResetState: the last cell of an image, and the first above it. -/
theorem test_witness_DriverResetState :
    ([0x10, 0x20] : List Byte).length ≤ 65536 ∧ ([0x10, 0x20] : List Byte)[(0x0001 : Word).toNat]? = some 0x20 ∧
    ([0x10, 0x20] : List Byte).length ≤ (0x0002 : Word).toNat := by decide

/-- ResetIsDriverReset: the shortest payload that does not fit, and the longest that does. -/
theorem test_witness_ResetIsDriverReset :
    65536 < (List.replicate 65537 (0 : Byte)).length ∧
    ∃ t, Driver.reset (fun _ => 0) (fun _ => 0) (List.replicate 65536 0) start = .next t :=
  ⟨by rw [List.length_replicate]; decide, _, if_pos (by rw [List.length_replicate])⟩

/-- OnlyListedRegistersWritten: a source that is no destination. -/
theorem test_witness_OnlyListedRegistersWritten :
    (∃ t, exec (.add3 1 2 3) start = .next t) ∧ (1 : Reg) ∉ destRegs (.add3 1 2 3) := ⟨⟨_, rfl⟩, by decide⟩

/-- OnlyListedFlagsWritten: for each flag, an instruction that does not write it. -/
theorem test_witness_OnlyListedFlagsWritten :
    (∃ t, exec (.and2 1 2) start = .next t) ∧ (flagsWritten (.and2 1 2)).c = false ∧
    (∃ t, exec (.drwReg 1 2 3) start = .next t) ∧ (flagsWritten (.drwReg 1 2 3)).z = false ∧
    (flagsWritten (.drwReg 1 2 3)).n = false ∧
    (∃ t, exec (.mul2 1 2) start = .next t) ∧ (flagsWritten (.mul2 1 2)).o = false :=
  ⟨⟨_, rfl⟩, rfl, ⟨_, rfl⟩, rfl, rfl, ⟨_, rfl⟩, rfl⟩

/-- OnlyListedInstructionsWriteSp: Cx that is not taken. -/
theorem test_witness_OnlyListedInstructionsWriteSp :
    (∃ t, exec (.cx 0 0x0500) start = .next t) ∧ writesSp (.cx 0 0x0500) = false := ⟨⟨_, rfl⟩, by decide⟩

/-- OnlyListedBytesStored: the bytes just outside a word stored at the top of memory, and just above PUSHALL's 32. -/
theorem test_witness_OnlyListedBytesStored :
    (∃ t, exec (.stm 1 0xFFFF) start = .next t) ∧ ¬ InSpan 0x0001 (storeSpan (.stm 1 0xFFFF) start) ∧
    ¬ InSpan 0xFFFE (storeSpan (.stm 1 0xFFFF) start) ∧
    (∃ t, exec .pushall start = .next t) ∧ ¬ InSpan 0xFE10 (storeSpan .pushall start) :=
  ⟨⟨_, rfl⟩, fun ⟨_, _, h, hlt⟩ => by cases h; revert hlt; decide, fun ⟨_, _, h, hlt⟩ => by cases h; revert hlt; decide,
    ⟨_, rfl⟩, fun ⟨_, _, h, hlt⟩ => by cases h; revert hlt; decide⟩

/-- CommandsIssuedInOrder: an instruction with two commands. -/
theorem test_witness_CommandsIssuedInOrder : ∃ t, exec .cls start = .next t := ⟨_, rfl⟩

/-- OnlyTransfersLeaveSequence: a division by the smallest divisor that does not fault. -/
theorem test_witness_OnlyTransfersLeaveSequence :
    (∃ t, exec (.divi 1 1) start = .next t) ∧ mayTransfer (.divi 1 1) = false ∧ divisorOf (.divi 1 1) start ≠ some 0 :=
  ⟨⟨_, rfl⟩, rfl, by decide⟩

/-- CycleCountNeverRead. -/
theorem test_witness_CycleCountNeverRead : ∃ t, exec .vblnk start = .next t := ⟨_, rfl⟩

/-- FlagsReadOnlyByPushf. -/
theorem test_witness_FlagsReadOnlyByPushf : Instr.popf ≠ .pushf ∧ ∃ t, exec .popf start = .next t := ⟨by decide, _, rfl⟩

/-- VblnkWaitsForVblank: both answers. -/
theorem test_witness_VblnkWaitsForVblank :
    (answering true false 0 start).answer.vblank = true ∧ (answering false false 0 start).answer.vblank = false := by decide

/-- RndDrawsWithinBound: both ends of the widest range. -/
theorem test_witness_RndDrawsWithinBound :
    (0 : Word).toNat ≤ (0xFFFF : Word).toNat ∧ (0xFFFF : Word).toNat ≤ (0xFFFF : Word).toNat := by decide

/-- CallsPushReturnAddress: the smallest field that calls, and the one that does not. -/
theorem test_witness_CallsPushReturnAddress : (1 : Nibble).toNat ≠ 0 ∧ (0 : Nibble).toNat = 0 := by decide

/-- DivisionWritesQuotientAndFlags: the divisor 0, the smallest other, and the greatest. -/
theorem test_witness_DivisionWritesQuotientAndFlags :
    (∃ p ∈ [(Instr.divi 1 0, (1 : Reg), (0 : Word)), (.div2 1 2, 1, start.reg 2), (.div3 1 2 3, 3, start.reg 2)], p.2.2 = 0) ∧
    (∃ p ∈ [(Instr.divi 1 1, (1 : Reg), (1 : Word)), (.div2 1 2, 1, start.reg 2), (.div3 1 2 3, 3, start.reg 2)], p.2.2 ≠ 0) ∧
    (withRegs [(2, 0xFFFF)] start).reg 2 ≠ 0 := by decide

/-- RemainderWritesRemainderAndFlags: a register divisor 0, and one that is not. -/
theorem test_witness_RemainderWritesRemainderAndFlags :
    (∃ p ∈ [(Instr.mod2 1 2, (1 : Reg), start.reg 2), (.rem3 1 2 3, 3, start.reg 2)], p.2.2 = 0) ∧
    (∃ p ∈ [(Instr.remi 1 1, (1 : Reg), (1 : Word)), (.modi 1 0xFFFF, 1, 0xFFFF)], p.2.2 ≠ 0) := by decide

/-- ShiftLeft: the smallest count of its last clause, and the greatest count of the immediate form. -/
theorem test_witness_ShiftLeft :
    (∃ p ∈ [(Instr.shlN 1 15, (15 : Nibble).toNat), (.shlReg 1 2, ((withRegs [(2, 16)] start).reg 2).toNat)], 16 ≤ p.2) ∧
    (∃ p ∈ [(Instr.shlN 1 15, (15 : Nibble).toNat), (.shlReg 1 2, ((withRegs [(2, 16)] start).reg 2).toNat)], ¬ 16 ≤ p.2) := by
  decide

/-- ShiftRightLogical: the smallest count of its last clause, and the greatest count of the immediate form. -/
theorem test_witness_ShiftRightLogical :
    (∃ p ∈ [(Instr.shrN 1 15, (15 : Nibble).toNat), (.shrReg 1 2, ((withRegs [(2, 16)] start).reg 2).toNat)], 16 ≤ p.2) ∧
    (∃ p ∈ [(Instr.shrN 1 15, (15 : Nibble).toNat), (.shrReg 1 2, ((withRegs [(2, 16)] start).reg 2).toNat)], ¬ 16 ≤ p.2) := by
  decide

/-- ShiftRightArithmetic: the smallest count of its last clause, and the greatest count of the immediate form. -/
theorem test_witness_ShiftRightArithmetic :
    (∃ p ∈ [(Instr.sarN 1 15, (15 : Nibble).toNat), (.sarReg 1 2, ((withRegs [(2, 16)] start).reg 2).toNat)], 16 ≤ p.2) ∧
    (∃ p ∈ [(Instr.sarN 1 15, (15 : Nibble).toNat), (.sarReg 1 2, ((withRegs [(2, 16)] start).reg 2).toNat)], ¬ 16 ≤ p.2) := by
  decide

/-- PushallStoresAllRegisters: the byte just above the 32, and the one just below, from an `sp` that wraps. -/
theorem test_witness_PushallStoresAllRegisters :
    32 ≤ ((0x0010 : Word) - 0xFFF0).toNat ∧ 32 ≤ ((0xFFEF : Word) - 0xFFF0).toNat := by decide

/-- PopallUndoesPushall: every register changed after PUSHALL (T406). -/
theorem test_witness_PopallUndoesPushall :
    ∃ t u : State, exec .pushall (numbered start) = .next t ∧ u.regs ≠ t.regs ∧ u.sp = t.sp ∧
      ∀ a : Word, u.mem.read8 a = t.mem.read8 a :=
  ⟨_, { numbered start with regs := Vector.replicate 16 0, sp := _, mem := _ }, rfl, by decide, rfl, fun _ => rfl⟩

/-- DriverPortOperations: a step that answers. -/
theorem test_witness_DriverPortOperations : ∃ t, step aboutToJump = .next t := ⟨_, rfl⟩

/-- PeripheralCommandsIssued: an entry of its list; the hypothesis asks for no more. -/
theorem test_witness_PeripheralCommandsIssued :
    (Instr.snp 1 100, [PeriphEvent.playTone (start.reg 1) 100]) ∈
      [(Instr.cls, [PeriphEvent.clearForeground, .clearBackground]), (.snp 1 100, [.playTone (start.reg 1) 100])] := by
  decide

/-- DrwWritesCollisionToCarry: an entry of its list; the hypothesis asks for no more. -/
theorem test_witness_DrwWritesCollisionToCarry :
    Instr.drwImm 1 2 0x3000 ∈
      [Instr.drwImm 1 2 0x3000, .drwReg 1 2 3] := by
  decide

/-- LdmLoadsWord: an entry of its list; the hypothesis asks for no more. -/
theorem test_witness_LdmLoadsWord :
    (Instr.ldmReg 1 2, regAddr 2 start) ∈
      [(Instr.ldm 1 0xFFFF, absAddr 0xFFFF), (.ldmReg 1 2, regAddr 2 start)] := by
  decide

/-- StmStoresWord: an entry of its list; the hypothesis asks for no more. -/
theorem test_witness_StmStoresWord :
    (Instr.stm 1 0xFFFF, absAddr 0xFFFF) ∈
      [(Instr.stm 1 0xFFFF, absAddr 0xFFFF), (.stmReg 1 2, regAddr 2 start)] := by
  decide

/-- AdditionWritesSumAndFlags: an entry of its list; the hypothesis asks for no more. -/
theorem test_witness_AdditionWritesSumAndFlags :
    (Instr.add3 1 2 3, (3 : Reg), start.reg 2) ∈
      [(Instr.addi 1 5, (1 : Reg), (5 : Word)), (.add2 1 2, 1, start.reg 2), (.add3 1 2 3, 3, start.reg 2)] := by
  decide

/-- SubtractionWritesDifferenceAndFlags: an entry of its list; the hypothesis asks for no more. -/
theorem test_witness_SubtractionWritesDifferenceAndFlags :
    (Instr.sub2 1 2, (1 : Reg), start.reg 2) ∈
      [(Instr.subi 1 5, (1 : Reg), (5 : Word)), (.sub2 1 2, 1, start.reg 2), (.sub3 1 2 3, 3, start.reg 2)] := by
  decide

/-- MultiplicationWritesProductAndFlags: an entry of its list; the hypothesis asks for no more. -/
theorem test_witness_MultiplicationWritesProductAndFlags :
    (Instr.muli 1 5, (1 : Reg), (5 : Word)) ∈
      [(Instr.muli 1 5, (1 : Reg), (5 : Word)), (.mul2 1 2, 1, start.reg 2), (.mul3 1 2 3, 3, start.reg 2)] := by
  decide

/-- LogicWritesBitsAndFlags: an entry of its list; the hypothesis asks for no more. -/
theorem test_witness_LogicWritesBitsAndFlags :
    (Instr.xor3 1 2 3, (3 : Reg), start.reg 2) ∈
      [(Instr.andi 1 5, (1 : Reg), (5 : Word)), (.or2 1 2, 1, start.reg 2), (.xor3 1 2 3, 3, start.reg 2)] := by
  decide

/-- TestWritesFlagsOnly: an entry of its list; the hypothesis asks for no more. -/
theorem test_witness_TestWritesFlagsOnly :
    (Instr.tst 1 1, start.reg 1) ∈
      [(Instr.tsti 1 5, (5 : Word)), (.tst 1 1, start.reg 1)] := by
  decide

end Sys2Proof.Tests
end

section
/-!
PROOFS. What an answer says of its next state, and when two answers are alike. Both pass through the conditions of the
conditional instructions and of the divisions, so a proof over all instructions needs no more than one case split.
-/
namespace Sys2Proof.Machine

/-- The meaning answers a next state, and `P` holds of it: `Completes i s P` is `Answers P (exec i s)`. -/
def Answers (P : State → Prop) (a : Answer) : Prop := ∃ t, a = .next t ∧ P t

theorem Answers.ite {P : State → Prop} {c : Prop} [Decidable c] {a b : Answer}
    (ha : c → Answers P a) (hb : ¬ c → Answers P b) : Answers P (if c then a else b) := by
  split
  · exact ha ‹_›
  · exact hb ‹_›

theorem Answers.of_eq_next {P : State → Prop} {a : Answer} {t : State} (h : Answers P a) (ht : a = .next t) : P t := by
  obtain ⟨u, hu, hP⟩ := h
  cases ht.symm.trans hu
  exact hP

/-- Both meanings answer a next state, and the second's is the first's but for what `upd` overwrites. -/
def AlikeUpTo {β : Type} (upd : β → State → State) (a a' : Answer) : Prop := ∃ t v, a = .next t ∧ a' = .next (upd v t)

theorem AlikeUpTo.ite {β : Type} {upd : β → State → State} {c : Prop} [Decidable c] {a b a' b' : Answer}
    (ha : AlikeUpTo upd a a') (hb : AlikeUpTo upd b b') :
    AlikeUpTo upd (if c then a else b) (if c then a' else b') := by
  split
  · exact ha
  · exact hb

theorem AlikeUpTo.of_eq_next {β : Type} {upd : β → State → State} {a a' : Answer} {t : State}
    (h : AlikeUpTo upd a a') (ht : a = .next t) : ∃ v, a' = .next (upd v t) := by
  obtain ⟨u, v, hu, hv⟩ := h
  cases ht.symm.trans hu
  exact ⟨v, hv⟩

end Sys2Proof.Machine
end

section
/-!
PROOFS. What each instruction may write (spec/10_state.md R23, R26, R27, R40; spec/42_control.md R140): for each piece of
state, the instructions that write it, and the rest, whose updates leave it as it is.
-/
namespace Sys2Proof.Machine

/-! ## General registers (R23) -/

theorem setReg_reg_of_notMem {s : State} {x j : Reg} (h : j ∉ [x]) (v : Word) : (s.setReg x v).reg j = s.reg j := by
  rw [State.setReg_reg, if_neg (by simpa using h)]

theorem mem_allRegs : ∀ j : Reg, j ∈ allRegs := by decide

theorem pushRegs_reg (rs : List Reg) (s : State) (j : Reg) : (pushRegs rs s).reg j = s.reg j := by
  simp only [State.reg, (pushRegs_kept rs s).1]

theorem exec_keeps_reg (i : Instr) (s : State) {j : Reg} (hj : j ∉ destRegs i) :
    Answers (fun t => t.reg j = s.reg j) (exec i s) := by
  cases i
  case rnd | ldi | ldm | ldmReg | mov | pop | addi | add2 | add3 | subi | sub2 | sub3 | muli | mul2 | mul3
      | andi | and2 | and3 | ori | or2 | or3 | xori | xor2 | xor3 | shlN | shrN | sarN | shlReg | shrReg | sarReg =>
    exact ⟨_, rfl, setReg_reg_of_notMem hj _⟩
  case divi | div2 | div3 | modi | mod2 | mod3 | remi | rem2 | rem3 =>
    exact .ite (fun _ => ⟨_, rfl, rfl⟩) fun _ => ⟨_, rfl, setReg_reg_of_notMem hj _⟩
  case jx | jme | cx => exact .ite (fun _ => ⟨_, rfl, rfl⟩) fun _ => ⟨_, rfl, rfl⟩
  case pushall => exact ⟨_, exec_pushall s, (State.commit_reg _ _ _).trans (pushRegs_reg allRegs s j)⟩
  case popall => exact absurd (mem_allRegs j) hj
  all_goals exact ⟨_, rfl, rfl⟩

/-- Settles O21: an instruction that writes a register writes its destination alone, and POPALL has all of them. -/
theorem onlyListedRegistersWritten : Obligations.OnlyListedRegistersWritten :=
  fun i s _ h _ hj => (exec_keeps_reg i s hj).of_eq_next h

/-! ## Flags (R27) -/

/-- The flags outside the row `w` of R27's table are as before. -/
def FlagSet.Keeps (w : FlagSet) (old f : Flags) : Prop :=
  (w.c = false → f.c = old.c) ∧ (w.z = false → f.z = old.z) ∧ (w.o = false → f.o = old.o) ∧ (w.n = false → f.n = old.n)

theorem FlagSet.keeps_of_eq {w : FlagSet} {old f : Flags} (h : f = old) : w.Keeps old f := by
  subst h
  exact ⟨fun _ => rfl, fun _ => rfl, fun _ => rfl, fun _ => rfl⟩

theorem FlagSet.all_keeps (old f : Flags) : FlagSet.Keeps ⟨true, true, true, true⟩ old f := ⟨nofun, nofun, nofun, nofun⟩

theorem flagsMul_keeps (a b : Word) (f : Flags) : FlagSet.Keeps ⟨true, true, false, true⟩ f (flagsMul a b f) :=
  ⟨nofun, nofun, fun _ => rfl, nofun⟩

theorem flagsDiv_keeps (a b : Word) (f : Flags) : FlagSet.Keeps ⟨true, true, false, true⟩ f (flagsDiv a b f) :=
  ⟨nofun, nofun, fun _ => rfl, nofun⟩

theorem flagsZn_keeps (r : Word) (f : Flags) : FlagSet.Keeps ⟨false, true, false, true⟩ f (flagsZn r f) :=
  ⟨fun _ => rfl, nofun, fun _ => rfl, nofun⟩

theorem flagsCollision_keeps (c : Bool) (f : Flags) : FlagSet.Keeps ⟨true, false, false, false⟩ f (flagsCollision c f) :=
  ⟨nofun, fun _ => rfl, fun _ => rfl, fun _ => rfl⟩

theorem exec_keeps_flags (i : Instr) (s : State) : Answers (fun t => (flagsWritten i).Keeps s.flags t.flags) (exec i s) := by
  cases i
  case addi | add2 | add3 | subi | sub2 | sub3 | cmpi | cmp | popf => exact ⟨_, rfl, FlagSet.all_keeps _ _⟩
  case muli | mul2 | mul3 => exact ⟨_, rfl, flagsMul_keeps _ _ _⟩
  case divi | div2 | div3 => exact .ite (fun _ => ⟨_, rfl, FlagSet.keeps_of_eq rfl⟩) fun _ => ⟨_, rfl, flagsDiv_keeps _ _ _⟩
  case modi | mod2 | mod3 | remi | rem2 | rem3 =>
    exact .ite (fun _ => ⟨_, rfl, FlagSet.keeps_of_eq rfl⟩) fun _ => ⟨_, rfl, flagsZn_keeps _ _⟩
  case andi | and2 | and3 | tsti | tst | ori | or2 | or3 | xori | xor2 | xor3
      | shlN | shrN | sarN | shlReg | shrReg | sarReg =>
    exact ⟨_, rfl, flagsZn_keeps _ _⟩
  case drwImm | drwReg => exact ⟨_, rfl, flagsCollision_keeps _ _⟩
  case jx | jme | cx => exact .ite (fun _ => ⟨_, rfl, FlagSet.keeps_of_eq rfl⟩) fun _ => ⟨_, rfl, FlagSet.keeps_of_eq rfl⟩
  case pushall =>
    obtain ⟨-, -, hflags, -⟩ := pushRegs_kept allRegs s
    exact ⟨_, exec_pushall s, FlagSet.keeps_of_eq ((State.commit_flags _ _).trans hflags)⟩
  case popall =>
    obtain ⟨-, -, hflags, -⟩ := popRegs_kept allRegs.reverse s
    exact ⟨_, exec_popall s, FlagSet.keeps_of_eq ((State.commit_flags _ _).trans hflags)⟩
  all_goals exact ⟨_, rfl, FlagSet.keeps_of_eq rfl⟩

/-- Settles O22: each flag evaluator keeps the flags that its row of R27's table leaves out. -/
theorem onlyListedFlagsWritten : Obligations.OnlyListedFlagsWritten :=
  fun i s _ h => (exec_keeps_flags i s).of_eq_next h

/-! ## The stack pointer (R26) -/

theorem exec_keeps_sp (i : Instr) (s : State) (hi : writesSp i = false) : Answers (fun t => t.sp = s.sp) (exec i s) := by
  cases i
  case ldiSp | call | callReg | ret | push | pop | pushall | popall | pushf | popf => exact nomatch hi
  case cx => exact .ite (fun hx => absurd hx (of_decide_eq_false hi)) fun _ => ⟨_, rfl, rfl⟩
  case jx | jme | divi | div2 | div3 | modi | mod2 | mod3 | remi | rem2 | rem3 =>
    exact .ite (fun _ => ⟨_, rfl, rfl⟩) fun _ => ⟨_, rfl, rfl⟩
  all_goals exact ⟨_, rfl, rfl⟩

/-- Settles O23: outside R26's list no update writes `sp`; an untaken Cx pushes nothing. -/
theorem onlyListedInstructionsWriteSp : Obligations.OnlyListedInstructionsWriteSp :=
  fun i s _ h hi => (exec_keeps_sp i s hi).of_eq_next h

/-! ## Peripheral commands (R40, R42) -/

theorem exec_history (i : Instr) (s : State) : Answers (fun t => t.history = s.history ++ commandsOf i s) (exec i s) := by
  have none_issued : s.history = s.history ++ [] := (List.append_nil _).symm
  cases i
  case cls => exact ⟨_, rfl, List.append_assoc _ _ _⟩
  case vblnk | bgc | spr | drwImm | drwReg | flip | snd0 | snd1 | snd2 | snd3 | snp | sng => exact ⟨_, rfl, rfl⟩
  case jx | jme | cx | divi | div2 | div3 | modi | mod2 | mod3 | remi | rem2 | rem3 =>
    exact .ite (fun _ => ⟨_, rfl, none_issued⟩) fun _ => ⟨_, rfl, none_issued⟩
  case pushall =>
    obtain ⟨-, -, -, -, -, hhistory, -⟩ := pushRegs_kept allRegs s
    exact ⟨_, exec_pushall s, (State.commit_history _ _).trans (hhistory.trans none_issued)⟩
  case popall =>
    obtain ⟨-, -, -, -, -, hhistory, -⟩ := popRegs_kept allRegs.reverse s
    exact ⟨_, exec_popall s, (State.commit_history _ _).trans (hhistory.trans none_issued)⟩
  all_goals exact ⟨_, rfl, none_issued⟩

/-- Settles O25: the commands of a meaning are appended in turn, and every other update keeps the history. -/
theorem commandsIssuedInOrder : Obligations.CommandsIssuedInOrder :=
  fun i s _ h => (exec_history i s).of_eq_next h

/-! ## The program counter (R24, R140) -/

theorem exec_pc_sequential (i : Instr) (s : State) (hi : mayTransfer i = false) (hd : divisorOf i s ≠ some 0) :
    Answers (fun t => t.pc = s.pc + 4) (exec i s) := by
  cases i
  case vblnk | jmp | jx | jme | call | ret | jmpReg | cx | callReg => exact nomatch hi
  case divi | div2 | div3 | modi | mod2 | mod3 | remi | rem2 | rem3 =>
    exact .ite (fun hb => absurd (congrArg some hb) hd) fun _ => ⟨_, rfl, rfl⟩
  case pushall =>
    obtain ⟨-, hpc, -⟩ := pushRegs_kept allRegs s
    exact ⟨_, exec_pushall s, (State.commit_pc _ _).trans (congrArg (· + 4) hpc)⟩
  case popall =>
    obtain ⟨-, hpc, -⟩ := popRegs_kept allRegs.reverse s
    exact ⟨_, exec_popall s, (State.commit_pc _ _).trans (congrArg (· + 4) hpc)⟩
  all_goals exact ⟨_, rfl, rfl⟩

/-- Settles O26: every meaning outside R140's list commits with delta 4, a division once its divisor is not 0. -/
theorem onlyTransfersLeaveSequence : Obligations.OnlyTransfersLeaveSequence :=
  fun i s _ h hi hd => (exec_pc_sequential i s hi hd).of_eq_next h

end Sys2Proof.Machine
end

section
/-!
PROOFS. What no instruction reads (R29), and what only PUSHF reads (R27): every other meaning gives, from a state that differs
there only, the same updates.
-/
namespace Sys2Proof.Machine

/-! ## The count (R29) -/

/-- The count overwritten. -/
def State.setCount (k : Nat) (s : State) : State := { s with cycleCount := k }

theorem State.commit_setCount (s : State) (k : Nat) (d : Word) :
    (s.setCount k).commit d = (s.commit d).setCount (k + 1) := rfl

theorem pushRegs_setCount (rs : List Reg) (k : Nat) (s : State) :
    pushRegs rs (s.setCount k) = (pushRegs rs s).setCount k :=
  List.foldl_hom (State.setCount k) fun _ _ => rfl

theorem popRegs_setCount (rs : List Reg) (k : Nat) (s : State) :
    popRegs rs (s.setCount k) = (popRegs rs s).setCount k :=
  List.foldl_hom (State.setCount k) fun _ _ => rfl

theorem exec_setCount (i : Instr) (k : Nat) (s : State) :
    AlikeUpTo State.setCount (exec i s) (exec i (s.setCount k)) := by
  cases i
  case jx | jme | cx | divi | div2 | div3 | modi | mod2 | mod3 | remi | rem2 | rem3 =>
    exact .ite ⟨_, _, rfl, rfl⟩ ⟨_, _, rfl, rfl⟩
  case pushall => exact ⟨_, k + 1, exec_pushall s, by rw [exec_pushall, pushRegs_setCount, State.commit_setCount]⟩
  case popall => exact ⟨_, k + 1, exec_popall s, by rw [exec_popall, popRegs_setCount, State.commit_setCount]⟩
  all_goals exact ⟨_, _, rfl, rfl⟩

/-- Settles O27: no operand and no condition of a meaning depends on the count. -/
theorem cycleCountNeverRead : Obligations.CycleCountNeverRead :=
  fun i s _ k h => (exec_setCount i k s).of_eq_next h

/-! ## The flags (R27) -/

theorem State.commit_setFlags (s : State) (f : Flags) (d : Word) :
    (s.setFlags f).commit d = (s.commit d).setFlags f := rfl

theorem pushRegs_setFlags (rs : List Reg) (f : Flags) (s : State) :
    pushRegs rs (s.setFlags f) = (pushRegs rs s).setFlags f :=
  List.foldl_hom (State.setFlags · f) fun _ _ => rfl

theorem popRegs_setFlags (rs : List Reg) (f : Flags) (s : State) :
    popRegs rs (s.setFlags f) = (popRegs rs s).setFlags f :=
  List.foldl_hom (State.setFlags · f) fun _ _ => rfl

theorem exec_setFlags {i : Instr} (hi : i ≠ .pushf) (f : Flags) (s : State) :
    AlikeUpTo (fun f t => t.setFlags f) (exec i s) (exec i (s.setFlags f)) := by
  cases i
  case pushf => exact absurd rfl hi
  case jx | jme | cx | divi | div2 | div3 | modi | mod2 | mod3 | remi | rem2 | rem3 =>
    exact .ite ⟨_, _, rfl, rfl⟩ ⟨_, _, rfl, rfl⟩
  case pushall => exact ⟨_, f, exec_pushall s, by rw [exec_pushall, pushRegs_setFlags, State.commit_setFlags]⟩
  case popall => exact ⟨_, f, exec_popall s, by rw [exec_popall, popRegs_setFlags, State.commit_setFlags]⟩
  all_goals exact ⟨_, _, rfl, rfl⟩

/-- Settles O28: no operand and no condition of a meaning depends on the flags; an evaluator copies those that it keeps. -/
theorem flagsReadOnlyByPushf : Obligations.FlagsReadOnlyByPushf :=
  fun _ s _ f hi h => (exec_setFlags hi f s).of_eq_next h

end Sys2Proof.Machine
end

section
/-!
PROOFS. The driver port (spec/10_state.md R34, R43; spec/70_reset_and_hazards.md R330).
-/
namespace Sys2Proof.Machine

/-! ## Reset (R34) -/

/-- Leaving out of a memory the cells that read as unlisted ones changes no reading. -/
theorem lookup_filter_listed (f : Nat → Byte) (l : List Nat) (a : Nat) :
    Memory.lookup a ((l.map fun k => (k, f k)).filter fun c => decide (c.2 ≠ Memory.unlisted)) =
      if a ∈ l then f a else Memory.unlisted := by
  induction l with
  | nil => rfl
  | cons k l ih =>
    rw [List.map_cons, List.filter_cons]
    split
    · rw [Memory.lookup, ih]
      by_cases hk : k = a
      · simp [hk]
      · simp [hk, Ne.symm hk]
    · next hf =>
      have hk_unlisted : f k = Memory.unlisted := by simpa using hf
      rw [ih]
      by_cases hk : a = k
      · simp [hk, hk_unlisted]
      · simp [hk]

theorem resetMemory_read8 (um : Nat → Byte) (rom : List Byte) (a : Word) :
    (resetMemory um rom).read8 a = resetCell um rom a.toNat := by
  rw [Memory.read8, resetMemory, lookup_filter_listed, if_pos (List.mem_range.2 a.isLt)]

theorem resetCell_of_image {um : Nat → Byte} {rom : List Byte} {a : Nat} {b : Byte} (h : rom[a]? = some b) :
    resetCell um rom a = b := by
  rw [resetCell, List.getD_eq_getElem?_getD, h, Option.getD_some]

theorem resetCell_above_image {um : Nat → Byte} {rom : List Byte} {a : Nat} (h : rom.length ≤ a) :
    resetCell um rom a = um a :=
  List.getD_eq_default _ _ h

/-- Settles O19: a cell of the reset memory reads as `resetCell`, which is the image's byte or `unset_mem`. -/
theorem driverResetState : Obligations.DriverResetState := by
  intro ur um rom s hlen
  refine ⟨_, if_pos hlen, rfl, rfl, rfl, fun i => ?_, fun a b hb => ?_, fun a ha => ?_, rfl, rfl⟩
  · simp [State.reg]
  · rw [resetMemory_read8, resetCell_of_image hb]
  · rw [resetMemory_read8, resetCell_above_image ha]

/-! ## The other operations (R43) -/

/-- R22: the signed reading as arithmetic on the pattern. -/
theorem s16_eq (w : Word) : s16 w = if 0x8000 ≤ w.toNat then (w.toNat : Int) - 65536 else w.toNat := by
  rw [s16, BitVec.toInt_eq_toNat_cond]
  split <;> split <;> omega

theorem setReg_regWritten (s : State) (i : Reg) (v : Word) : RegWritten i v s (s.setReg i v) :=
  ⟨by simp, fun j hj => by simp [hj]⟩

theorem write16_wordStored (s : State) (a v : Word) : WordStored a v s (s.setMem (s.mem.write16 a v)) := by
  have hne : a ≠ a + 1 := by bv_omega
  refine ⟨?_, ?_, fun b hb hb' => ?_⟩
  · simp [Memory.write16, loByte_toNat]
  · simp [Memory.write16, hiByte_toNat]
  · rw [State.setMem_mem, Memory.write16, Memory.read8_write8, if_neg hb', Memory.read8_write8, if_neg hb]

theorem driverStep_answer (s : State) : (Driver.step s).1 = step s := by
  unfold Driver.step
  split <;> simp [*]

theorem driverStep_count {s t : State} (h : step s = .next t) : (Driver.step s).2 = t.cycleCount := by
  simp [Driver.step, h]

/-- Settles O60: each operation is one update or one reading of the state. -/
theorem driverPortOperations : Obligations.DriverPortOperations := fun s i a v =>
  ⟨s16_eq (s.reg i), driverStep_answer s, fun _ => driverStep_count, setReg_regWritten s i v, ⟨_, rfl⟩, rfl,
    write16_wordStored s a v, ⟨_, rfl⟩, rfl, rfl, rfl, rfl⟩

end Sys2Proof.Machine
end

section
/-!
PROOFS. Memory (spec/20_memory.md R54 to R60, R67): a word's two bytes, what the fetch reads, which bytes an instruction may
store to, and that every step keeps the canonical form of memory and the precision of the fault record.
-/
namespace Sys2Proof.Machine

/-! ## A word in memory (R54 to R56) -/

/-- `MemRead(b, 1)` after `MemWrite(a, 2, v)`. -/
theorem Memory.read8_write16 (m : Memory) (a v b : Word) :
    (m.write16 a v).read8 b = if b = a + 1 then hiByte v else if b = a then loByte v else m.read8 b := by
  rw [Memory.write16, Memory.read8_write8, Memory.read8_write8]

theorem Memory.read8_write16_low (m : Memory) (a v : Word) : (m.write16 a v).read8 a = loByte v := by
  have hne : a ≠ a + 1 := by bv_omega
  rw [Memory.read8_write16, if_neg hne, if_pos rfl]

theorem Memory.read8_write16_high (m : Memory) (a v : Word) : (m.write16 a v).read8 (a + 1) = hiByte v := by
  rw [Memory.read8_write16, if_pos rfl]

theorem Memory.read8_write16_other (m : Memory) (v : Word) {a b : Word} (ha : b ≠ a) (ha' : b ≠ a + 1) :
    (m.write16 a v).read8 b = m.read8 b := by
  rw [Memory.read8_write16, if_neg ha', if_neg ha]

theorem Memory.read16_write16 (m : Memory) (a v : Word) : (m.write16 a v).read16 a = v := by
  rw [Memory.read16, Memory.read8_write16_low, Memory.read8_write16_high, wordOf_loByte_hiByte]

/-- Settles O7: the two bytes written are the halves of the word, and a load joins them again. -/
theorem wordStoreThenLoad : Obligations.WordStoreThenLoad := by
  intro m a v
  refine ⟨m.read16_write16 a v, ?_, ?_, fun _ => m.read8_write16_other v, wordOf_toNat _ _⟩
  · rw [Memory.read8_write16_low, loByte_toNat]
  · rw [Memory.read8_write16_high, hiByte_toNat]

/-! ## The fetch (R57, R58, R67) -/

/-- The four fetched bytes as cells of the memory, each address modulo 65536 (R51). -/
theorem Memory.fetch_eq_lookup (m : Memory) (a : Word) :
    m.fetch a = ⟨Memory.lookup a.toNat m, Memory.lookup ((a.toNat + 1) % 65536) m,
      Memory.lookup ((a.toNat + 2) % 65536) m, Memory.lookup ((a.toNat + 3) % 65536) m⟩ := by
  simp [Memory.fetch, Memory.read8, BitVec.toNat_add]

/-- R58, R75: HHLL is the word that stands in the last two bytes of the instruction. -/
theorem decodeFields_fetch_hhll (m : Memory) (a : Word) : (decodeFields (m.fetch a)).hhll = m.read16 (a + 2) := by
  rw [Memory.read16, BitVec.add_assoc]
  rfl

/-- Settles O9: the fetched bytes are the cells from `pc` up, and the decoder copies the first and joins the last two. -/
theorem fetchReadsMemoryFromPc : Obligations.FetchReadsMemoryFromPc := by
  intro s
  have hfetch := s.mem.fetch_eq_lookup s.pc
  exact ⟨congrArg InstrBytes.b0 hfetch, congrArg InstrBytes.b1 hfetch, congrArg InstrBytes.b2 hfetch,
    congrArg InstrBytes.b3 hfetch, congrArg InstrBytes.b0 hfetch, decodeFields_fetch_hhll s.mem s.pc⟩

/-- Settles O10: after STM to `pc + 4` the next fetch begins at the stored word, and its last two bytes lie above it. -/
theorem storeSeenByNextFetch : Obligations.StoreSeenByNextFetch := by
  intro x s
  obtain ⟨hlow, hhigh, hother⟩ := write16_wordStored s (s.pc + 4) (s.reg x)
  have hthird := hother (s.pc + 4 + 2) (by bv_omega) (by bv_omega)
  have hfourth := hother (s.pc + 4 + 3) (by bv_omega) (by bv_omega)
  exact ⟨_, exec_stm x (s.pc + 4) s, hlow, hhigh, hthird.trans (congrArg s.mem.read8 (BitVec.add_assoc _ _ _)),
    hfourth.trans (congrArg s.mem.read8 (BitVec.add_assoc _ _ _))⟩

/-! ## The bytes an instruction may store to (R60) -/

/-- What an execution can do to memory, said once: nothing, or one word stored at the start of the instruction's span, or the
registers pushed by PUSHALL. -/
theorem exec_mem_cases (i : Instr) (s : State) :
    Answers (fun t => t.mem = s.mem ∨ (∃ a v, storeSpan i s = some (a, 2) ∧ t.mem = s.mem.write16 a v) ∨
      (storeSpan i s = some (s.sp, 32) ∧ t.mem = (pushRegs allRegs s).mem)) (exec i s) := by
  cases i
  case stm | stmReg | push | pushf | call | callReg => exact ⟨_, rfl, .inr (.inl ⟨_, _, rfl, rfl⟩)⟩
  case cx => exact .ite (fun hx => ⟨_, rfl, .inr (.inl ⟨_, _, if_pos hx, rfl⟩)⟩) fun _ => ⟨_, rfl, .inl rfl⟩
  case pushall => exact ⟨_, exec_pushall s, .inr (.inr ⟨rfl, State.commit_mem _ _⟩)⟩
  case popall =>
    obtain ⟨hmem, -⟩ := popRegs_kept allRegs.reverse s
    exact ⟨_, exec_popall s, .inl ((State.commit_mem _ _).trans hmem)⟩
  case jx | jme | divi | div2 | div3 | modi | mod2 | mod3 | remi | rem2 | rem3 =>
    exact .ite (fun _ => ⟨_, rfl, .inl rfl⟩) fun _ => ⟨_, rfl, .inl rfl⟩
  all_goals exact ⟨_, rfl, .inl rfl⟩

theorem le_of_not_inSpan {a base : Word} {n : Nat} (h : ¬ InSpan a (some (base, n))) : n ≤ (a - base).toNat :=
  not_lt.1 fun hlt => h ⟨base, n, rfl, hlt⟩

theorem Memory.read8_write16_outside (m : Memory) (v : Word) {a base : Word} (h : ¬ InSpan a (some (base, 2))) :
    (m.write16 base v).read8 a = m.read8 a := by
  have hfar := le_of_not_inSpan h
  exact m.read8_write16_other v (by bv_omega) (by bv_omega)

/-- Settles O24: a stored word and PUSHALL's sixteen stay inside the span R60 gives the instruction. -/
theorem onlyListedBytesStored : Obligations.OnlyListedBytesStored := by
  intro i s t h a ha
  obtain hmem | ⟨base, v, hspan, hmem⟩ | ⟨hspan, hmem⟩ := (exec_mem_cases i s).of_eq_next h
  · rw [hmem]
  · rw [hmem, Memory.read8_write16_outside _ _ (hspan ▸ ha)]
  · rw [hmem, pushRegs_read8_outside allRegs s le_rfl a (le_of_not_inSpan (hspan ▸ ha))]

/-! ## The invariant: canonical memory, precise fault record (R50, R300, R306) -/

theorem exec_keeps_wf {i : Instr} {s t : State} (hwf : s.mem.wf) (h : exec i s = .next t) : t.mem.wf := by
  obtain hmem | ⟨a, v, -, hmem⟩ | ⟨-, hmem⟩ := (exec_mem_cases i s).of_eq_next h
  · rwa [hmem]
  · rw [hmem]
    exact Memory.write16_wf hwf a v
  · rw [hmem]
    exact pushRegs_wf allRegs hwf

/-- What an execution does to the fault status, said once (R89, R301, R303): it commits and counts with the fault status
kept, or its divisor is 0 and it answers the old state with the fault record. -/
theorem exec_commits_or_raises (i : Instr) (s : State) :
    Answers (fun t => (t.fault = s.fault ∧ t.cycleCount = s.cycleCount + 1) ∨
      (divisorOf i s = some 0 ∧ t = s.raise .divideByZero)) (exec i s) := by
  cases i
  case divi | div2 | div3 | modi | mod2 | mod3 | remi | rem2 | rem3 =>
    exact .ite (fun hb => ⟨_, rfl, .inr ⟨congrArg some hb, rfl⟩⟩) fun _ => ⟨_, rfl, .inl ⟨rfl, rfl⟩⟩
  case jx | jme | cx => exact .ite (fun _ => ⟨_, rfl, .inl ⟨rfl, rfl⟩⟩) fun _ => ⟨_, rfl, .inl ⟨rfl, rfl⟩⟩
  case pushall =>
    obtain ⟨-, -, -, hcount, hfault, -⟩ := pushRegs_kept allRegs s
    exact ⟨_, exec_pushall s, .inl ⟨(State.commit_fault _ _).trans hfault,
      (State.commit_cycleCount _ _).trans (congrArg (· + 1) hcount)⟩⟩
  case popall =>
    obtain ⟨-, -, -, hcount, hfault, -⟩ := popRegs_kept allRegs.reverse s
    exact ⟨_, exec_popall s, .inl ⟨(State.commit_fault _ _).trans hfault,
      (State.commit_cycleCount _ _).trans (congrArg (· + 1) hcount)⟩⟩
  all_goals exact ⟨_, rfl, .inl ⟨rfl, rfl⟩⟩

/-- R83: a rejection names the opcode byte. -/
theorem decode_rejected {b : InstrBytes} {e : DecodeError} (h : decode b = .rejected e) : e = .unmappedOpcode b.b0 := by
  unfold decode at h
  split at h
  · cases h
  · cases h
    rfl

@[simp] theorem State.raise_fetchBytes (s : State) (c : FaultCode) : (s.raise c).fetchBytes = s.fetchBytes := rfl

theorem divisorOf_raise (i : Instr) (s : State) (c : FaultCode) : divisorOf i (s.raise c) = divisorOf i s := by
  cases i <;> rfl

/-- A record describes a state or not whatever the state's own fault status is. -/
theorem describes_raise (r : FaultRecord) (s : State) (c : FaultCode) : r.Describes (s.raise c) ↔ r.Describes s := by
  simp only [FaultRecord.Describes, State.raise_pc, State.raise_fetchBytes, divisorOf_raise]

/-- Taking a fault keeps the invariant when the record's code has its cause at `pc` (R301, R306). -/
theorem raise_inv {s : State} {c : FaultCode} (hwf : s.mem.wf)
    (hc : FaultRecord.Describes ⟨c, s.pc, s.fetchBytes⟩ s) : (s.raise c).Inv := by
  refine ⟨hwf, fun r hr => ?_⟩
  cases hr
  exact (describes_raise _ s c).2 hc

theorem inv_of_running {s : State} (hwf : s.mem.wf) (hf : s.fault = none) : s.Inv :=
  ⟨hwf, fun _ hr => nomatch hf.symm.trans hr⟩

/-- Settles O15: a faulted engine stands still; a running one raises an unmapped opcode or a zero divisor that is there at
`pc`, or it commits and goes on running. -/
theorem stepKeepsInvariant : Obligations.StepKeepsInvariant := by
  intro s t hs h
  have hwf : s.mem.wf := hs.1
  obtain ⟨-, rfl⟩ | ⟨-, ⟨e, he⟩, rfl⟩ | ⟨hrun, i, hi, hx⟩ := step_next_cases h
  · exact hs
  · exact raise_inv hwf ⟨rfl, rfl, decode_rejected he ▸ he⟩
  · obtain ⟨hkept, -⟩ | ⟨hzero, rfl⟩ := (exec_commits_or_raises i s).of_eq_next hx
    · exact inv_of_running (exec_keeps_wf hwf hx) (hkept.trans hrun)
    · exact raise_inv hwf ⟨rfl, rfl, i, hi, hzero⟩

end Sys2Proof.Machine
end

section
/-!
PROOFS. The encoding (spec/30_encoding.md R72 to R84): decoding undoes the encoder for every instruction; the rows of the opcode
table tie the encoder to the masks of the formats; what the ignored bits and the unmapped opcodes do follows from the two.
-/
namespace Sys2Proof

/-! ## What the decoder answers (R73, R80) -/

theorem decode_of_entry {b : InstrBytes} {build : DecodedFields → Instr} (h : opcodeEntry b.b0 = some build) :
    decode b = .instr (build (decodeFields b)) := by
  rw [decode, show opcodeEntry (decodeFields b).opcode = some build from h]

theorem decode_of_no_entry {b : InstrBytes} (h : opcodeEntry b.b0 = none) : decode b = .rejected (.unmappedOpcode b.b0) := by
  rw [decode, show opcodeEntry (decodeFields b).opcode = none from h]

theorem decode_eq_instr_iff {b : InstrBytes} {i : Instr} :
    decode b = .instr i ↔ ∃ build, opcodeEntry b.b0 = some build ∧ build (decodeFields b) = i := by
  refine ⟨fun h => ?_, fun ⟨build, hentry, hi⟩ => hi ▸ decode_of_entry hentry⟩
  cases hentry : opcodeEntry b.b0 with
  | none => cases (decode_of_no_entry hentry).symm.trans h
  | some build => exact ⟨build, rfl, Decoded.instr.inj ((decode_of_entry hentry).symm.trans h)⟩

theorem mem_opcodeTable_of_entry {op : Byte} {build : DecodedFields → Instr} (h : opcodeEntry op = some build) :
    (op, build) ∈ opcodeTable := by
  obtain ⟨l₁, l₂, htable, -⟩ := List.lookup_eq_some_iff.1 h
  rw [htable]
  exact List.mem_append_right l₁ List.mem_cons_self

/-! ## Decoding undoes the encoder (R72, R74, R81)

One lemma per format: a row that builds its instruction from the fields of the format reads back the operands packed by it. -/

@[simp] theorem hflip_append (h : BitVec 7) (v : BitVec 1) : (h ++ v : Byte).extractLsb' 1 7 = h := by
  revert h v
  decide

@[simp] theorem vflip_append (h : BitVec 7) (v : BitVec 1) : (h ++ v : Byte).extractLsb' 0 1 = v := by
  revert h v
  decide

section
variable {op : Byte}

theorem decode_packO {i : Instr} (h : opcodeEntry op = some fun _ => i) : decode (packO op) = .instr i :=
  decode_of_entry (b := packO op) h

theorem decode_packN {build : Nibble → Instr} (h : opcodeEntry op = some fun f => build f.n) (n : Nibble) :
    decode (packN op n) = .instr (build n) := by
  rw [decode_of_entry h]
  simp [decodeFields, packN]

theorem decode_packI {build : Word → Instr} (h : opcodeEntry op = some fun f => build f.hhll) (hhll : Word) :
    decode (packI op hhll) = .instr (build hhll) := by
  rw [decode_of_entry h]
  simp [decodeFields, packI]

theorem decode_packXI {build : Nibble → Word → Instr} (h : opcodeEntry op = some fun f => build f.x f.hhll)
    (x : Nibble) (hhll : Word) : decode (packXI op x hhll) = .instr (build x hhll) := by
  rw [decode_of_entry h]
  simp [decodeFields, packXI]

theorem decode_packXYI {build : Nibble → Nibble → Word → Instr} (h : opcodeEntry op = some fun f => build f.x f.y f.hhll)
    (x y : Nibble) (hhll : Word) : decode (packXYI op x y hhll) = .instr (build x y hhll) := by
  rw [decode_of_entry h]
  simp [decodeFields, packXYI]

theorem decode_packXY {build : Nibble → Nibble → Instr} (h : opcodeEntry op = some fun f => build f.x f.y) (x y : Nibble) :
    decode (packXY op x y) = .instr (build x y) := by
  rw [decode_of_entry h]
  simp [decodeFields, packXY]

theorem decode_packXYZ {build : Nibble → Nibble → Nibble → Instr} (h : opcodeEntry op = some fun f => build f.x f.y f.n)
    (x y z : Nibble) : decode (packXYZ op x y z) = .instr (build x y z) := by
  rw [decode_of_entry h]
  simp [decodeFields, packXYZ]

theorem decode_packXN {build : Nibble → Nibble → Instr} (h : opcodeEntry op = some fun f => build f.x f.n) (x n : Nibble) :
    decode (packXN op x n) = .instr (build x n) := by
  rw [decode_of_entry h]
  simp [decodeFields, packXN]

theorem decode_packX {build : Nibble → Instr} (h : opcodeEntry op = some fun f => build f.x) (x : Nibble) :
    decode (packX op x) = .instr (build x) := by
  rw [decode_of_entry h]
  simp [decodeFields, packX]

theorem decode_packFL {build : BitVec 7 → BitVec 1 → Instr} (h : opcodeEntry op = some fun f => build f.hflip f.vflip)
    (hf : BitVec 7) (vf : BitVec 1) : decode (packFL op hf vf) = .instr (build hf vf) := by
  rw [decode_of_entry h]
  simp [decodeFields, packFL]

theorem decode_packSG {build : Byte → Word → Instr} (h : opcodeEntry op = some fun f => build f.ad f.vtsr)
    (ad : Byte) (vtsr : Word) : decode (packSG op ad vtsr) = .instr (build ad vtsr) := by
  rw [decode_of_entry h]
  simp [decodeFields, packSG]

end

/-- R84: reading back the encoding of any instruction. -/
theorem decode_encode (i : Instr) : decode (encode i) = .instr i := by
  cases i
  case nop | cls | vblnk | snd0 | ret | pushall | popall | pushf | popf => exact decode_packO (by rfl)
  case bgc => exact decode_packN (by rfl) _
  case spr => exact decode_eq_instr_iff.2 ⟨_, rfl, rfl⟩
  case snd1 | snd2 | snd3 | jmp | call | ldiSp => exact decode_packI (by rfl) _
  case rnd | snp | jx | cx | ldi | ldm | stm | addi | subi | cmpi | andi | tsti | ori | xori | muli | divi | modi | remi =>
    exact decode_packXI (by rfl) _ _
  case drwImm | jme => exact decode_packXYI (by rfl) _ _ _
  case ldmReg | mov | stmReg | add2 | sub2 | cmp | and2 | tst | or2 | xor2 | mul2 | div2 | mod2 | rem2 | shlReg | shrReg |
      sarReg => exact decode_packXY (by rfl) _ _
  case drwReg | add3 | sub3 | and3 | or3 | xor3 | mul3 | div3 | mod3 | rem3 => exact decode_packXYZ (by rfl) _ _ _
  case shlN | shrN | sarN => exact decode_packXN (by rfl) _ _
  case jmpReg | callReg | push | pop => exact decode_packX (by rfl) _
  case flip => exact decode_packFL (by rfl) _ _
  case sng => exact decode_packSG (by rfl) _ _

/-- Settles O3: each format's fields are read back from where the encoder packs them; no instruction is ill-formed. -/
theorem decodeOfEncode : Obligations.DecodeOfEncode := fun i _ => decode_encode i

theorem encode_injective : Function.Injective encode := fun i i' h =>
  Decoded.instr.inj ((decode_encode i).symm.trans ((congrArg decode h).trans (decode_encode i')))

/-! ## The encoder and the masks of the formats (R74, R77) -/

/-- The word that the encoder gives a row of this format, from the fields of a word. -/
def Format.pack (op : Byte) (f : DecodedFields) : Format → InstrBytes
  | .O   => packO op
  | .N   => packN op f.n
  | .I   => packI op f.hhll
  | .XI  => packXI op f.x f.hhll
  | .XYI => packXYI op f.x f.y f.hhll
  | .XY  => packXY op f.x f.y
  | .XYZ => packXYZ op f.x f.y f.n
  | .XN  => packXN op f.x f.n
  | .X   => packX op f.x
  | .FL  => packFL op f.hflip f.vflip
  | .SG  => packSG op f.ad f.vtsr

@[simp] theorem byte_and_FF (b : Byte) : b &&& 0xFF#8 = b := BitVec.and_allOnes

/-- Packing the fields of a word again clears the bits that the format ignores, and no other bit. -/
theorem Format.pack_decodeFields (fmt : Format) (b : InstrBytes) :
    fmt.pack b.b0 (decodeFields b) = b.masked fmt.mask := by
  cases fmt
  case FL => simp [Format.pack, packFL, decodeFields, InstrBytes.masked, Format.mask, flipFields_join]
  all_goals simp [Format.pack, packO, packN, packI, packXI, packXYI, packXY, packXYZ, packXN, packX, packSG, decodeFields,
    InstrBytes.masked, Format.mask]

/-- The format of a row of the opcode table, read off the instruction that it gives for fields that are all 0. -/
def rowFormat (row : OpcodeRow) : Format := formatOf (row.2 (decodeFields (packO row.1)))

/-- Of the words with the row's opcode byte: each gives an instruction of the row's format, whose encoding is the word with
the bits the format ignores cleared. -/
def RowEncodes (row : OpcodeRow) : Prop :=
  ∀ b : InstrBytes, b.b0 = row.1 →
    formatOf (row.2 (decodeFields b)) = rowFormat row ∧ encode (row.2 (decodeFields b)) = b.masked (rowFormat row).mask

theorem rowEncodes_of_pack {row : OpcodeRow} (hfmt : ∀ f, formatOf (row.2 f) = rowFormat row)
    (hpack : ∀ b, encode (row.2 (decodeFields b)) = (rowFormat row).pack row.1 (decodeFields b)) : RowEncodes row :=
  fun b hb => ⟨hfmt _, by rw [hpack, ← hb, Format.pack_decodeFields]⟩

/-- The row of SPR, alone among those of its format, takes the two bytes of HHLL apart (R105). -/
theorem rowEncodes_spr : RowEncodes (0x04#8, fun f => .spr f.ll f.hh) :=
  rowEncodes_of_pack (fun _ => rfl) fun b =>
    congrArg₂ (InstrBytes.mk 0x04#8 0) (loByte_wordOf b.b2 b.b3).symm (hiByte_wordOf b.b2 b.b3).symm

theorem opcodeTable_rowEncodes : ∀ row ∈ opcodeTable, RowEncodes row := by
  simp only [opcodeTable, systemRows, controlRows, loadStoreRows, addSubRows, logicRows, mulDivRows, shiftRows, stackRows,
    List.cons_append, List.nil_append, List.forall_mem_cons, List.not_mem_nil, false_implies, implies_true, and_true,
    rowEncodes_spr, true_and]
  and_intros <;> exact rowEncodes_of_pack (fun _ => rfl) fun _ => rfl

/-- Settles O4: the word's row encodes. -/
theorem encodeOfDecode : Obligations.EncodeOfDecode := by
  intro b i h
  obtain ⟨build, hentry, rfl⟩ := decode_eq_instr_iff.1 h
  obtain ⟨hfmt, henc⟩ := opcodeTable_rowEncodes _ (mem_opcodeTable_of_entry hentry) b rfl
  rw [henc, ← hfmt]

/-- Every format reads the whole opcode byte. -/
theorem Format.mask_b0 (fmt : Format) : fmt.mask.b0 = 0xFF#8 := by cases fmt <;> rfl

theorem opcode_eq_of_masked_eq {b b' : InstrBytes} {fmt : Format} (h : b'.masked fmt.mask = b.masked fmt.mask) :
    b'.b0 = b.b0 := by
  have hb0 : b'.b0 &&& fmt.mask.b0 = b.b0 &&& fmt.mask.b0 := congrArg InstrBytes.b0 h
  rwa [Format.mask_b0, byte_and_FF, byte_and_FF] at hb0

/-- Settles O5: the two words have one row, so their instructions have the same encoding, and the encoder is injective. -/
theorem ignoredBitsHaveNoEffect : Obligations.IgnoredBitsHaveNoEffect := by
  intro b b' i h hmask
  have hop : b'.b0 = b.b0 := opcode_eq_of_masked_eq hmask
  obtain ⟨build, hentry, rfl⟩ := decode_eq_instr_iff.1 h
  have hrow := opcodeTable_rowEncodes _ (mem_opcodeTable_of_entry hentry)
  obtain ⟨hfmt, henc⟩ := hrow b rfl
  obtain ⟨-, henc'⟩ := hrow b' hop
  refine decode_eq_instr_iff.2 ⟨build, hop ▸ hentry, encode_injective ?_⟩
  rw [henc, henc', ← hfmt, hmask]

/-! ## The unmapped opcodes (R83) -/

/-- R83's list and R81's table, written apart, share out the 256 opcode bytes. -/
theorem opcodeEntry_isSome (op : Byte) : (opcodeEntry op).isSome = !opcodeUnmapped op := by
  have hnibbles : ∀ hi lo : Nibble, (opcodeEntry (byteOf hi lo)).isSome = !opcodeUnmapped (byteOf hi lo) := by decide
  rw [← byteOf_hiNibble_loNibble op]
  exact hnibbles _ _

/-- Settles O6: an opcode has no entry in the table exactly when R83 lists it. -/
theorem unmappedOpcodesRejected : Obligations.UnmappedOpcodesRejected := by
  refine ⟨fun b h => decode_of_no_entry ?_, fun b h => ?_, rfl⟩
  · simpa [h] using opcodeEntry_isSome b.b0
  · have hsome : (opcodeEntry b.b0).isSome := by simp [opcodeEntry_isSome, h]
    obtain ⟨build, hentry⟩ := Option.isSome_iff_exists.1 hsome
    exact ⟨_, decode_of_entry hentry⟩

/-! ## The fields as arithmetic (R72) -/

theorem hiNibble_toNat (b : Byte) : (hiNibble b).toNat = b.toNat / 16 := by
  rw [hiNibble, BitVec.extractLsb'_toNat, Nat.shiftRight_eq_div_pow]
  omega

theorem loNibble_toNat (b : Byte) : (loNibble b).toNat = b.toNat % 16 := by
  rw [loNibble, BitVec.extractLsb'_toNat, Nat.shiftRight_zero]

theorem hflip_toNat (b : Byte) : (b.extractLsb' 1 7).toNat = b.toNat / 2 := by
  rw [BitVec.extractLsb'_toNat, Nat.shiftRight_eq_div_pow]
  omega

theorem vflip_toNat (b : Byte) : (b.extractLsb' 0 1).toNat = b.toNat % 2 := by
  rw [BitVec.extractLsb'_toNat, Nat.shiftRight_zero]

/-- Settles O1: the fetched bytes are cells, and each field is a byte, a part of one, or two joined. -/
theorem fieldsOfFourBytes : Obligations.FieldsOfFourBytes :=
  ⟨Machine.Memory.fetch_eq_lookup, fun b =>
    ⟨rfl, hiNibble_toNat b.b1, loNibble_toNat b.b1, rfl, rfl, loNibble_toNat b.b2, rfl, hflip_toNat b.b3, vflip_toNat b.b3,
      wordOf_toNat b.b2 b.b3, rfl⟩⟩

/-- Settles O2: each word's opcode has its row, and the fields compute; 0xFF has none. -/
theorem specWordsDecode : Obligations.SpecWordsDecode := by
  refine ⟨?_, ?_, ?_, ?_, ?_, ?_, ?_, ?_, ?_, decode_of_no_entry rfl⟩
  all_goals exact decode_eq_instr_iff.2 ⟨_, rfl, rfl⟩

end Sys2Proof

namespace Sys2Proof.Machine

/-! ## The decoded instruction's step (R89), and VBLNK's (R92, R103) -/

theorem step_of_decode {s : State} {i : Instr} (hf : s.fault = none) (hi : decode s.fetchBytes = .instr i) :
    step s = exec i s := by
  simp [step, hf, hi]

/-- Settles O11: `step` adds to `exec` the check of the fault status and the decoding alone. -/
theorem stepRunsDecodedInstruction : Obligations.StepRunsDecodedInstruction := fun _ _ hf hi _ => step_of_decode hf hi

theorem decodesAs_of_entry {op : Byte} {build : DecodedFields → Instr} (h : opcodeEntry op = some build) :
    DecodesAs op build :=
  fun _ _ _ => decode_of_entry h

/-- Settles O31: the answer decides the delta of the commit and the record of the command, and nothing else. -/
theorem vblnkWaitsForVblank : Obligations.VblnkWaitsForVblank := by
  refine ⟨decodesAs_of_entry rfl, fun s => ⟨_, exec_vblnk s, fun hv => ?_, fun hv => ?_, rfl, rfl, rfl, rfl, rfl,
    fun _ => rfl, rfl, rfl, fun _ => rfl⟩⟩
  · simp [hv]
  · simp [hv]

end Sys2Proof.Machine
end

section
/-!
PROOFS. The system and peripheral instructions (spec/41_system_peripheral.md R101 to R115): what the instructions that only
issue commands have in common, what the two draws have in common, and the range of RND.
-/
namespace Sys2Proof.Machine

/-- Settles O29: NOP is a commit with delta 4 and nothing before it. -/
theorem nopOnlyAdvances : Obligations.NopOnlyAdvances :=
  ⟨decodesAs_of_entry rfl, fun s =>
    ⟨_, exec_nop s, fun _ => rfl, rfl, rfl, fun _ => rfl, ⟨rfl, rfl, rfl⟩, rfl, rfl, rfl⟩⟩

/-! ## Commands without an answer (R102, R104, R105, R109 to R115) -/

/-- R42: commands issued one after the other stand in the history in that order, and nothing else changes. -/
theorem foldl_issue (es : List PeriphEvent) (s : State) :
    es.foldl State.issue s = { s with history := s.history ++ es } := by
  induction es generalizing s with
  | nil => rw [List.foldl_nil, List.append_nil]
  | cons e es ih => rw [List.foldl_cons, ih, State.issue_history, List.append_assoc]; rfl

/-- An instruction that issues commands and commits with delta 4 changes nothing else (R40, R89). -/
theorem exec_eq_of_issues {i : Instr} {es : List PeriphEvent} {s : State}
    (h : exec i s = .next ((es.foldl State.issue s).commit 4)) :
    exec i s = .next { s with pc := s.pc + 4, cycleCount := s.cycleCount + 1, history := s.history ++ es } := by
  rw [h, foldl_issue]
  rfl

/-- R109: a flip field is true exactly when its value is not 0. -/
theorem flipBit_eq_toNat_ne_zero {w : Nat} (f : BitVec w) : flipBit f = decide (f.toNat ≠ 0) :=
  decide_eq_decide.2 BitVec.toNat_ne

/-- Settles O30: each of the ten meanings issues its commands in turn and commits with delta 4. -/
theorem peripheralCommandsIssued : Obligations.PeripheralCommandsIssued := by
  refine ⟨?_, ?_, ?_, ?_, ?_, ?_, ?_, ?_, ?_, ?_, fun n w h ad fh fv x hhll s => ?commands⟩
  case commands =>
    rw [← flipBit_eq_toNat_ne_zero fh, ← flipBit_eq_toNat_ne_zero fv]
    simp only [List.forall_mem_cons, List.not_mem_nil, false_implies, implies_true, and_true]
    and_intros <;> exact exec_eq_of_issues rfl
  all_goals exact decodesAs_of_entry rfl

/-! ## The draws (R106, R107) -/

/-- All that a draw does, whichever command it issues: the command carries the collision answer, and C is that answer. -/
theorem drawSprite_writes_collision (event : Bool → PeriphEvent) (s : State) :
    Answers (fun t =>
      t.history = s.history ++ [event s.answer.collision] ∧ t.answers = s.answers.tail ∧ t.draws = s.draws + 1 ∧
      t.flags.c = s.answer.collision ∧ t.flags.z = s.flags.z ∧ t.flags.o = s.flags.o ∧ t.flags.n = s.flags.n ∧
      RegsKept s t ∧ t.sp = s.sp ∧ MemKept s t ∧ Advanced (s.pc + 4) s t) (drawSprite event s) :=
  ⟨_, drawSprite_eq event s, rfl, rfl, rfl, rfl, rfl, rfl, rfl, fun _ => rfl, rfl, fun _ => rfl, rfl, rfl, rfl⟩

/-- Settles O32: both forms are draws; they differ in the command alone. -/
theorem drwWritesCollisionToCarry : Obligations.DrwWritesCollisionToCarry := by
  refine ⟨decodesAs_of_entry rfl, decodesAs_of_entry rfl, fun x y z hhll s => ?_⟩
  rw [List.forall_mem_cons, List.forall_mem_singleton]
  exact ⟨drawSprite_writes_collision (.drawSpriteFromAddress hhll (s.reg x) (s.reg y)) s,
    drawSprite_writes_collision (.drawSpriteFromRegisterPointer (s.reg z) (s.reg x) (s.reg y)) s⟩

/-! ## The random draw (R108) -/

theorem rndWithin_le (hhll draw : Word) : (rndWithin hhll draw).toNat ≤ hhll.toNat := by
  rw [rndWithin_toNat]
  exact Nat.le_of_lt_succ (Nat.mod_lt _ hhll.toNat.succ_pos)

/-- A raw draw that already lies in the range is written as it is (log entry 4). -/
theorem rndWithin_of_le {hhll draw : Word} (h : draw.toNat ≤ hhll.toNat) : rndWithin hhll draw = draw :=
  BitVec.eq_of_toNat_eq ((rndWithin_toNat hhll draw).trans (Nat.mod_eq_of_lt (Nat.lt_succ_of_le h)))

/-- Settles O33: every raw draw is brought into the range, and for each value of the range the answer that is that value
gives it. -/
theorem rndDrawsWithinBound : Obligations.RndDrawsWithinBound := by
  refine ⟨decodesAs_of_entry rfl, fun x hhll s => ⟨?_, fun v hv => ⟨⟨false, false, v⟩, _, exec_rnd x hhll _, ?_⟩⟩⟩
  · obtain ⟨hx, hother⟩ := setReg_regWritten s.drawn x (rndWithin hhll s.answer.rnd)
    have hbound := (congrArg BitVec.toNat hx).trans_le (rndWithin_le hhll s.answer.rnd)
    exact ⟨_, exec_rnd x hhll s, hbound, hother, rfl, rfl, fun _ => rfl, rfl, rfl, rfl, rfl, rfl, rfl⟩
  · obtain ⟨hx, -⟩ := setReg_regWritten (State.drawn { s with answers := ⟨false, false, v⟩ :: s.answers }) x _
    exact hx.trans (rndWithin_of_le hv)

end Sys2Proof.Machine
end

section
/-!
PROOFS. Control transfer (spec/42_control.md R140 to R149): what a transfer, a branch and a call answer, once for each shared
form, and that RET pops what a call has pushed.
-/
namespace Sys2Proof.Machine

/-! ## Jumps (R141 to R143, R146) -/

theorem jumpOnly_commit (s : State) (d : Word) : JumpOnly (s.pc + d) s (s.commit d) :=
  ⟨fun _ => rfl, rfl, rfl, fun _ => rfl, ⟨rfl, rfl, rfl⟩, rfl, rfl, rfl⟩

theorem sequential_jumpOnly (s : State) : Answers (JumpOnly (s.pc + 4) s) (sequential s) :=
  ⟨_, sequential_eq s, jumpOnly_commit s 4⟩

/-- R140: the delta `t - pc` makes the target absolute, a jump to itself included. -/
theorem transferTo_jumpOnly (t : Word) (s : State) : Answers (JumpOnly t s) (transferTo t s) := by
  have hjump := jumpOnly_commit s (t - s.pc)
  rw [add_deltaTo] at hjump
  exact ⟨_, transferTo_eq t s, hjump⟩

/-- Settles O34: both forms are a transfer to their target. -/
theorem jmpReachesTarget : Obligations.JmpReachesTarget :=
  ⟨decodesAs_of_entry rfl, decodesAs_of_entry rfl,
    fun x hhll s => ⟨transferTo_jumpOnly hhll s, transferTo_jumpOnly (s.reg x) s⟩⟩

/-- A conditional transfer reaches its target when it is taken, and `pc + 4` when it is not. -/
theorem branch_jumpOnly (c : Prop) [Decidable c] (t : Word) (s : State) :
    Answers (JumpOnly (if c then t else s.pc + 4) s) (if c then transferTo t s else sequential s) := by
  split
  · exact transferTo_jumpOnly t s
  · exact sequential_jumpOnly s

/-- Settles O35: both are a conditional transfer, Jx on its field as a number, JME on the two patterns. -/
theorem conditionalJumps : Obligations.ConditionalJumps := by
  refine ⟨decodesAs_of_entry rfl, decodesAs_of_entry rfl, fun k x y hhll s => ⟨?_, branch_jumpOnly _ hhll s⟩⟩
  have htarget : (if k.toNat = 0 then s.pc + 4 else hhll) = if k ≠ 0 then hhll else s.pc + 4 :=
    (ite_not _ _ _).symm.trans (if_congr (BitVec.toNat_ne (y := 0)).symm rfl rfl)
  rw [htarget]
  exact branch_jumpOnly (k ≠ 0) hhll s

/-! ## Calls (R144, R147, R148) -/

theorem push_wordStored (s : State) (v : Word) : WordStored s.sp v s (s.push v) := write16_wordStored s s.sp v

theorem callTo_called (t : Word) (s : State) : Answers (Called t s) (callTo t s) :=
  ⟨_, callTo_eq t s, push_wordStored s (s.pc + 4), rfl, fun _ => rfl, rfl, ⟨rfl, rfl, rfl⟩, add_deltaTo s t, rfl, rfl⟩

/-- R147: Cx is a CALL when its field is not 0. -/
theorem exec_cx_of_ne_zero {k : Nibble} (hk : k ≠ 0) (hhll : Word) (s : State) : exec (.cx k hhll) s = callTo hhll s :=
  if_pos hk

theorem exec_cx_of_eq_zero {k : Nibble} (hk : k = 0) (hhll : Word) (s : State) : exec (.cx k hhll) s = sequential s :=
  if_neg (not_not_intro hk)

/-- Settles O36: CALL HHLL, CALL RX and a taken Cx are one form at three targets; an untaken Cx only commits with delta 4. -/
theorem callsPushReturnAddress : Obligations.CallsPushReturnAddress := by
  refine ⟨decodesAs_of_entry rfl, decodesAs_of_entry rfl, decodesAs_of_entry rfl, fun k x hhll s =>
    ⟨callTo_called hhll s, callTo_called (s.reg x) s, fun hk => ?taken, fun hk => ?untaken⟩⟩
  case taken =>
    rw [Completes, exec_cx_of_ne_zero (BitVec.toNat_ne.2 hk)]
    exact callTo_called hhll s
  case untaken =>
    rw [Completes, exec_cx_of_eq_zero (BitVec.eq_of_toNat_eq hk)]
    exact sequential_jumpOnly s

/-! ## The return (R145) -/

theorem popValue_toNat (s : State) :
    s.popValue.toNat = (s.mem.read8 (s.sp - 1)).toNat * 256 + (s.mem.read8 (s.sp - 2)).toNat := by
  have hhigh : s.sp - 2 + 1 = s.sp - 1 := by bv_omega
  rw [State.popValue, Memory.read16, hhigh, wordOf_toNat]

/-- Settles O37: RET is a transfer to the word popped, and popping writes `sp` alone. -/
theorem retPopsTarget : Obligations.RetPopsTarget := by
  refine ⟨decodesAs_of_entry rfl, fun s =>
    ⟨_, exec_ret s, rfl, ?_, rfl, rfl, fun _ => rfl, rfl, fun _ => rfl, rfl, rfl, rfl⟩⟩
  rw [State.commit_pc, State.popped_pc, add_deltaTo, popValue_toNat]

/-- R270: a push moves `sp` up by as much as a pop moves it down, wrapping. -/
theorem push_sp_sub_two (s : State) (v : Word) : (s.push v).sp - 2 = s.sp := BitVec.add_sub_cancel _ _

/-- R270: popping reads the word that was pushed last. -/
theorem popValue_push (s : State) (v : Word) : (s.push v).popValue = v := by
  rw [State.popValue, push_sp_sub_two, State.push_mem, Memory.read16_write16]

/-- Settles O38: after the CALL the word to pop is its return address, and the pop takes back what the push added to `sp`. -/
theorem callThenRetReturns : Obligations.CallThenRetReturns := fun hhll s =>
  ⟨_, _, exec_call hhll s, exec_ret _, (add_deltaTo _ _).trans (popValue_push s (s.pc + 4)), push_sp_sub_two s (s.pc + 4),
    fun _ => rfl, rfl, rfl⟩

end Sys2Proof.Machine
end

section
/-!
PROOFS. Load, store and move (spec/43_load_store.md R170 to R177): what an instruction with one destination register changes,
and, once for each shared form, what a load into a register and a store of a word answer.
-/
namespace Sys2Proof.Machine

/-! ## Loads and the move (R171 to R175) -/

/-- R23, R89: a register written, beside the flags, and committed with delta 4. -/
theorem regOnly_setFlags_setReg (x : Reg) (v : Word) (f : Flags) (s : State) :
    RegOnly x v s (((s.setFlags f).setReg x v).commit 4) :=
  ⟨setReg_regWritten (s.setFlags f) x v, rfl, fun _ => rfl, ⟨rfl, rfl, rfl⟩, rfl, rfl, rfl⟩

theorem loadInto_regOnly (x : Reg) (v : Word) (s : State) :
    Answers (fun t => RegOnly x v s t ∧ t.flags = s.flags) (loadInto x v s) :=
  ⟨_, sequential_eq _, regOnly_setFlags_setReg x v s.flags s, rfl⟩

/-- Settles O39: LDI RX and MOV are a load into RX, of HHLL and of RY; LDI SP writes `sp` and commits with delta 4. -/
theorem immediateLoadsAndMove : Obligations.ImmediateLoadsAndMove :=
  ⟨decodesAs_of_entry rfl, decodesAs_of_entry rfl, decodesAs_of_entry rfl, fun x y hhll s =>
    ⟨loadInto_regOnly x hhll s, loadInto_regOnly x (s.reg y) s,
      ⟨_, exec_ldiSp hhll s, rfl, fun _ => rfl, rfl, fun _ => rfl, ⟨rfl, rfl, rfl⟩, rfl, rfl, rfl⟩⟩⟩

/-- R54: a word read is the byte at `a + 1` above the byte at `a`. -/
theorem Memory.read16_toNat (m : Memory) (a : Word) :
    (m.read16 a).toNat = (m.read8 (a + 1)).toNat * 256 + (m.read8 a).toNat :=
  wordOf_toNat _ _

/-- R173, R174: the value comes from the memory before the load, at an address taken before RX is written. -/
theorem loadInto_word (x : Reg) (a : Word) (s : State) :
    Answers (fun t => ∃ v : Word, v.toNat = (s.mem.read8 (a + 1)).toNat * 256 + (s.mem.read8 a).toNat ∧
      RegOnly x v s t ∧ t.flags = s.flags) (loadInto x (s.mem.read16 a) s) := by
  obtain ⟨t, ht, honly⟩ := loadInto_regOnly x (s.mem.read16 a) s
  exact ⟨t, ht, _, s.mem.read16_toNat a, honly⟩

/-- Settles O40: both forms load the word at their address. -/
theorem ldmLoadsWord : Obligations.LdmLoadsWord := by
  refine ⟨decodesAs_of_entry rfl, decodesAs_of_entry rfl, fun x y hhll s => ?_⟩
  rw [List.forall_mem_cons, List.forall_mem_singleton]
  exact ⟨loadInto_word x (absAddr hhll) s, loadInto_word x (regAddr y s) s⟩

/-! ## Stores (R176, R177) -/

theorem storeWord_wordStored (a v : Word) (s : State) :
    Answers (fun t => WordStored a v s t ∧ RegsKept s t ∧ t.sp = s.sp ∧ t.flags = s.flags ∧ PortKept s t ∧
      Advanced (s.pc + 4) s t) (storeWord a v s) :=
  ⟨_, sequential_eq _, write16_wordStored s a v, fun _ => rfl, rfl, rfl, ⟨rfl, rfl, rfl⟩, rfl, rfl, rfl⟩

/-- Settles O41: both forms store RX at their address. -/
theorem stmStoresWord : Obligations.StmStoresWord := by
  refine ⟨decodesAs_of_entry rfl, decodesAs_of_entry rfl, fun x y hhll s => ?_⟩
  rw [List.forall_mem_cons, List.forall_mem_singleton]
  exact ⟨storeWord_wordStored (absAddr hhll) (s.reg x) s, storeWord_wordStored (regAddr y s) (s.reg x) s⟩

end Sys2Proof.Machine
end

section
/-!
PROOFS. Arithmetic (spec/44_arith.md R190 to R231): each result as a number, each flag evaluator against its rule, and, once for
each shared form, what an operation, a comparison and a division answer.
-/
namespace Sys2Proof.Machine

/-! ## The results as numbers (R190 to R193) -/

theorem addResult_toNat (a b : Word) : (addResult a b).toNat = (a.toNat + b.toNat) % 65536 := by
  rw [addResult_eq, BitVec.toNat_add]

theorem subResult_toNat (a b : Word) : (subResult a b).toNat = (a.toNat + 65536 - b.toNat) % 65536 := by
  have hb : b.toNat ≤ 65536 := b.isLt.le
  rw [subResult_eq, BitVec.toNat_sub', ← Nat.add_sub_assoc hb]

theorem mulResult_toNat (a b : Word) : (mulResult a b).toNat = a.toNat * b.toNat % 65536 := by
  rw [mulResult_eq, BitVec.toNat_mul]

/-! ## The flags (R191 to R195, R220) -/

/-- N of a result whose value is `n` (R12). -/
theorem msb_iff_of_toNat {r : Word} {n : Nat} (h : r.toNat = n) : r.msb = true ↔ 0x8000 ≤ n := h ▸ msb_iff r

theorem flagsAdd_addFlags (a b : Word) (f : Flags) : AddFlags a b (flagsAdd a b f) := by
  refine ⟨?_, ?_, ?_, msb_iff_of_toNat (addResult_toNat a b)⟩
  · rw [flagsAdd, decide_eq_true_iff, rawAdd]
    omega
  · rw [flagsAdd, decide_eq_true_iff, rawAdd]
    omega
  · simp [flagsAdd, addResult_eq]

theorem flagsSub_subFlags (a b : Word) (f : Flags) : SubFlags a b (flagsSub a b f) := by
  refine ⟨?_, ?_, ?_, msb_iff_of_toNat (subResult_toNat a b)⟩
  · rw [flagsSub, decide_eq_true_iff, rawSub]
    omega
  · rw [flagsSub, decide_eq_true_iff, rawSub]
    omega
  · simp [flagsSub, subResult_eq]

/-- R193, R195: C and Z are on the exact product, not on the stored word. -/
theorem flagsMul_mulFlags (a b : Word) (f : Flags) : MulFlags a b f (flagsMul a b f) := by
  have hraw : rawMul a b = ((a.toNat * b.toNat : Nat) : Int) := (Int.natCast_mul _ _).symm
  refine ⟨?_, ?_, msb_iff_of_toNat (mulResult_toNat a b), rfl⟩
  · rw [flagsMul, decide_eq_true_iff, hraw]
    omega
  · rw [flagsMul, decide_eq_true_iff, hraw]
    omega

theorem flagsDiv_divFlags (a b : Word) (f : Flags) : DivFlags a b f (flagsDiv a b f) := by
  refine ⟨?_, ?_, msb_iff_of_toNat (divResult_toNat a b), rfl⟩
  · rw [flagsDiv, decide_eq_true_iff, ← modResult_toNat]
    exact BitVec.toNat_ne
  · rw [flagsDiv, decide_eq_true_iff, ← divResult_toNat]
    exact BitVec.toNat_eq

theorem flagsZn_znFlags (r : Word) (f : Flags) : ZnFlags r.toNat f (flagsZn r f) :=
  ⟨decide_eq_true_iff.trans BitVec.toNat_eq, msb_iff r, rfl, rfl⟩

/-! ## The shared forms (R190, R203, R219) -/

/-- An operation writes its result and its flags and nothing else, for every rule `F` that its evaluator obeys. -/
theorem aluInto_writes {res : Word → Word → Word} {fl : Word → Word → Flags → Flags} {a b : Word} {s : State} {n : Nat}
    {F : Word → Flags → Prop} (dst : Reg) (hn : (res a b).toNat = n) (hF : F (res a b) (fl a b s.flags)) :
    Answers (fun t => ∃ r : Word, r.toNat = n ∧ RegOnly dst r s t ∧ F r t.flags) (aluInto dst res fl a b s) :=
  ⟨_, aluInto_eq dst res fl a b s, res a b, hn, regOnly_setFlags_setReg dst (res a b) (fl a b s.flags) s, hF⟩

/-- Settles O42: the three forms are one addition at three pairs of destination and second operand. -/
theorem additionWritesSumAndFlags : Obligations.AdditionWritesSumAndFlags := by
  refine ⟨decodesAs_of_entry rfl, decodesAs_of_entry rfl, decodesAs_of_entry rfl, fun x y z hhll s => ?_⟩
  have hadd (dst : Reg) (b : Word) := aluInto_writes (F := fun _ => AddFlags (s.reg x) b) dst
    (addResult_toNat (s.reg x) b) (flagsAdd_addFlags (s.reg x) b s.flags)
  rw [List.forall_mem_cons, List.forall_mem_cons, List.forall_mem_singleton]
  exact ⟨hadd x hhll, hadd x (s.reg y), hadd z (s.reg y)⟩

/-- Settles O43: the three forms are one subtraction at three pairs of destination and subtrahend. -/
theorem subtractionWritesDifferenceAndFlags : Obligations.SubtractionWritesDifferenceAndFlags := by
  refine ⟨decodesAs_of_entry rfl, decodesAs_of_entry rfl, decodesAs_of_entry rfl, fun x y z hhll s => ?_⟩
  have hsub (dst : Reg) (b : Word) := aluInto_writes (F := fun _ => SubFlags (s.reg x) b) dst
    (subResult_toNat (s.reg x) b) (flagsSub_subFlags (s.reg x) b s.flags)
  rw [List.forall_mem_cons, List.forall_mem_cons, List.forall_mem_singleton]
  exact ⟨hsub x hhll, hsub x (s.reg y), hsub z (s.reg y)⟩

/-- Settles O46: the three forms are one multiplication at three pairs of destination and second operand. -/
theorem multiplicationWritesProductAndFlags : Obligations.MultiplicationWritesProductAndFlags := by
  refine ⟨decodesAs_of_entry rfl, decodesAs_of_entry rfl, decodesAs_of_entry rfl, fun x y z hhll s => ?_⟩
  have hmul (dst : Reg) (b : Word) := aluInto_writes (F := fun _ => MulFlags (s.reg x) b s.flags) dst
    (mulResult_toNat (s.reg x) b) (flagsMul_mulFlags (s.reg x) b s.flags)
  rw [List.forall_mem_cons, List.forall_mem_cons, List.forall_mem_singleton]
  exact ⟨hmul x hhll, hmul x (s.reg y), hmul z (s.reg y)⟩

/-! ## Comparison (R203, R204) -/

theorem setFlags_flagsOnly (f : Flags) (s : State) : FlagsOnly s ((s.setFlags f).commit 4) :=
  ⟨fun _ => rfl, rfl, fun _ => rfl, ⟨rfl, rfl, rfl⟩, rfl, rfl, rfl⟩

theorem compare_flagsOnly (a b : Word) (s : State) :
    Answers (fun t => FlagsOnly s t ∧ SubFlags a b t.flags) (aluCompare flagsSub a b s) :=
  ⟨_, sequential_eq _, setFlags_flagsOnly (flagsSub a b s.flags) s, flagsSub_subFlags a b s.flags⟩

/-- Settles O44: both forms are a comparison of RX, with HHLL and with RY. -/
theorem comparisonWritesFlagsOnly : Obligations.ComparisonWritesFlagsOnly :=
  ⟨decodesAs_of_entry rfl, decodesAs_of_entry rfl, fun x y hhll s =>
    ⟨compare_flagsOnly (s.reg x) hhll s, compare_flagsOnly (s.reg x) (s.reg y) s⟩⟩

/-! ## Signed overflow (R231) -/

/-- The sign rule of R191 is the signed overflow of a sum. -/
theorem add_sign_rule_iff (a b : Word) :
    (a.msb = b.msb ∧ (a + b).msb ≠ a.msb) ↔ (a.toInt + b.toInt < -32768 ∨ 32767 < a.toInt + b.toInt) := by
  calc
    _ ↔ a.saddOverflow b = true := by simp [BitVec.saddOverflow_eq]
    _ ↔ a.toInt + b.toInt < -32768 ∨ 32767 < a.toInt + b.toInt := by
      simp only [BitVec.saddOverflow, Bool.or_eq_true, decide_eq_true_iff]
      omega

/-- The sign rule of R192 is the signed overflow of a difference. -/
theorem sub_sign_rule_iff (a b : Word) :
    (a.msb ≠ b.msb ∧ (a - b).msb ≠ a.msb) ↔ (a.toInt - b.toInt < -32768 ∨ 32767 < a.toInt - b.toInt) := by
  calc
    _ ↔ a.ssubOverflow b = true := by
      rw [BitVec.ssubOverflow_eq]
      cases a.msb <;> cases b.msb <;> simp
    _ ↔ a.toInt - b.toInt < -32768 ∨ 32767 < a.toInt - b.toInt := by
      simp only [BitVec.ssubOverflow, Bool.or_eq_true, decide_eq_true_iff]
      omega

/-- Settles O45: O follows the sign rule, and the sign rule is signed overflow. -/
theorem overflowIsSignedOverflow : Obligations.OverflowIsSignedOverflow := by
  intro x y s
  obtain ⟨-, -, hadd, -⟩ := flagsAdd_addFlags (s.reg x) (s.reg y) s.flags
  obtain ⟨-, -, hsub, -⟩ := flagsSub_subFlags (s.reg x) (s.reg y) s.flags
  exact ⟨⟨_, exec_add2 x y s, hadd.trans (add_sign_rule_iff _ _)⟩, ⟨_, exec_sub2 x y s, hsub.trans (sub_sign_rule_iff _ _)⟩⟩

/-! ## Division and remainder (R219 to R230) -/

/-- A division whose divisor is 0 sets the fault record and does nothing else; any other writes as an operation does. -/
theorem aluDivide_faults_or_writes {res : Word → Word → Word} {fl : Word → Word → Flags → Flags} {a b : Word} {s : State}
    {n : Nat} {F : Word → Flags → Prop} (dst : Reg) (hn : (res a b).toNat = n) (hF : F (res a b) (fl a b s.flags)) :
    (b = 0 → ∃ f : FaultRecord, f.code = .divideByZero ∧ f.pc = s.pc ∧
      aluDivide dst res fl a b s = .next { s with fault := some f }) ∧
    (b ≠ 0 → Answers (fun t => ∃ r : Word, r.toNat = n ∧ RegOnly dst r s t ∧ F r t.flags)
      (aluDivide dst res fl a b s)) := by
  refine ⟨fun hb => ?zero, fun hb => ?nonzero⟩
  case zero =>
    subst hb
    exact ⟨⟨.divideByZero, s.pc, s.fetchBytes⟩, rfl, rfl, aluDivide_zero dst res fl a s⟩
  case nonzero =>
    rw [aluDivide_of_ne hb]
    exact aluInto_writes dst hn hF

/-- Settles O47: the three forms are one division at three pairs of destination and divisor. -/
theorem divisionWritesQuotientAndFlags : Obligations.DivisionWritesQuotientAndFlags := by
  refine ⟨decodesAs_of_entry rfl, decodesAs_of_entry rfl, decodesAs_of_entry rfl, fun x y z hhll s => ?_⟩
  have hdivide (dst : Reg) (b : Word) := aluDivide_faults_or_writes (F := fun _ => DivFlags (s.reg x) b s.flags) dst
    (divResult_toNat (s.reg x) b) (flagsDiv_divFlags (s.reg x) b s.flags)
  rw [List.forall_mem_cons, List.forall_mem_cons, List.forall_mem_singleton]
  exact ⟨hdivide x hhll, hdivide x (s.reg y), hdivide z (s.reg y)⟩

/-- Settles O48: MOD and REM are one remainder at three pairs of destination and divisor. -/
theorem remainderWritesRemainderAndFlags : Obligations.RemainderWritesRemainderAndFlags := by
  refine ⟨?_, ?_, ?_, ?_, ?_, ?_, fun x y z hhll s => ?remainders⟩
  case remainders =>
    have hremainder (dst : Reg) (b : Word) := aluDivide_faults_or_writes (fl := flagsMod)
      (F := fun r => ZnFlags r.toNat s.flags) dst (modResult_toNat (s.reg x) b)
      (flagsZn_znFlags (modResult (s.reg x) b) s.flags)
    simp only [List.forall_mem_cons, List.not_mem_nil, false_implies, implies_true, and_true]
    exact ⟨hremainder x hhll, hremainder x (s.reg y), hremainder z (s.reg y),
      hremainder x hhll, hremainder x (s.reg y), hremainder z (s.reg y)⟩
  all_goals exact decodesAs_of_entry rfl

end Sys2Proof.Machine
end

section
/-!
PROOFS. Logic and shifts (spec/45_logic_shift.md R240 to R260): what a result with its Z and N answers, once for a result that is
written and once for one that is discarded; each shift as arithmetic on the value shifted, and what is left of it from a count of
16 on.
-/
namespace Sys2Proof.Machine

/-! ## The shared forms (R240, R244, R254) -/

theorem resultInto_writes (dst : Reg) (r : Word) (s : State) :
    Answers (fun t => RegOnly dst r s t ∧ ZnFlags r.toNat s.flags t.flags) (resultInto dst r s) :=
  ⟨_, sequential_eq _, regOnly_setFlags_setReg dst r (flagsZn r s.flags) s, flagsZn_znFlags r s.flags⟩

theorem resultTest_flagsOnly (r : Word) (s : State) :
    Answers (fun t => FlagsOnly s t ∧ ZnFlags r.toNat s.flags t.flags) (resultTest r s) :=
  ⟨_, sequential_eq _, setFlags_flagsOnly (flagsZn r s.flags) s, flagsZn_znFlags r s.flags⟩

/-! ## Bitwise logic (R241 to R251) -/

/-- A logic instruction writes the word that the Boolean operation `op` gives bit by bit. -/
theorem resultInto_bits {op : Bool → Bool → Bool} {a b r : Word} (dst : Reg) (s : State)
    (hbits : ∀ k : Nat, r.getLsbD k = op (a.getLsbD k) (b.getLsbD k)) :
    Answers (fun t => ∃ r : Word, (∀ k : Nat, r.getLsbD k = op (a.getLsbD k) (b.getLsbD k)) ∧
      RegOnly dst r s t ∧ ZnFlags r.toNat s.flags t.flags) (resultInto dst r s) := by
  obtain ⟨t, ht, hwrites⟩ := resultInto_writes dst r s
  exact ⟨t, ht, r, hbits, hwrites⟩

/-- Settles O49: each of AND, OR and XOR is one operation at three pairs of destination and second operand. -/
theorem logicWritesBitsAndFlags : Obligations.LogicWritesBitsAndFlags := by
  refine ⟨?_, ?_, ?_, ?_, ?_, ?_, ?_, ?_, ?_, fun x y z hhll s => ?results⟩
  case results =>
    have hand (dst : Reg) (b : Word) := resultInto_bits dst s fun _ => BitVec.getLsbD_and (x := s.reg x) (y := b)
    have hor (dst : Reg) (b : Word) := resultInto_bits dst s fun _ => BitVec.getLsbD_or (x := s.reg x) (y := b)
    have hxor (dst : Reg) (b : Word) := resultInto_bits dst s fun _ => BitVec.getLsbD_xor (x := s.reg x) (y := b)
    simp only [List.forall_mem_cons, List.not_mem_nil, false_implies, implies_true, and_true]
    exact ⟨hand x hhll, hand x (s.reg y), hand z (s.reg y), hor x hhll, hor x (s.reg y), hor z (s.reg y),
      hxor x hhll, hxor x (s.reg y), hxor z (s.reg y)⟩
  all_goals exact decodesAs_of_entry rfl

/-- Settles O50: both forms test one bitwise AND, of RX with HHLL and of RX with RY. -/
theorem testWritesFlagsOnly : Obligations.TestWritesFlagsOnly := by
  refine ⟨decodesAs_of_entry rfl, decodesAs_of_entry rfl, fun x y hhll s => ?_⟩
  have htest (b : Word) : Answers (fun t => ∃ r : Word,
      (∀ k : Nat, r.getLsbD k = ((s.reg x).getLsbD k && b.getLsbD k)) ∧
        FlagsOnly s t ∧ ZnFlags r.toNat s.flags t.flags) (resultTest (s.reg x &&& b) s) := by
    obtain ⟨t, ht, honly⟩ := resultTest_flagsOnly (s.reg x &&& b) s
    exact ⟨t, ht, s.reg x &&& b, fun _ => BitVec.getLsbD_and, honly⟩
  rw [List.forall_mem_cons, List.forall_mem_singleton]
  exact ⟨htest hhll, htest (s.reg y)⟩

/-! ## The shift results (R254) -/

theorem shlResult_toNat (v : Word) (c : Nat) : (shlResult v c).toNat = v.toNat * 2 ^ c % 65536 := by
  rw [shlResult, BitVec.toNat_shiftLeft, Nat.shiftLeft_eq]

theorem shlResult_of_sixteen_le (v : Word) {c : Nat} (hc : 16 ≤ c) : shlResult v c = 0 := BitVec.shiftLeft_eq_zero hc

theorem shrResult_toNat (v : Word) (c : Nat) : (shrResult v c).toNat = v.toNat / 2 ^ c := by
  rw [shrResult, BitVec.toNat_ushiftRight, Nat.shiftRight_eq_div_pow]

theorem shrResult_of_sixteen_le (v : Word) {c : Nat} (hc : 16 ≤ c) : shrResult v c = 0 := BitVec.ushiftRight_eq_zero hc

/-- D9: narrowing the shifted signed reading is the arithmetic shift of the pattern. -/
theorem sarResult_eq_sshiftRight (v : Word) (c : Nat) : sarResult v c = v.sshiftRight c := BitVec.sshiftRight_eq.symm

theorem sarResult_toInt (v : Word) (c : Nat) : (sarResult v c).toInt = v.toInt / 2 ^ c := by
  rw [sarResult_eq_sshiftRight, BitVec.toInt_sshiftRight, Int.shiftRight_eq_div_pow, Nat.cast_pow, Nat.cast_ofNat]

/-- A negative value shifts as the complement of its complement, so both cases come from the logical shift. -/
theorem sarResult_of_sixteen_le (v : Word) {c : Nat} (hc : 16 ≤ c) : sarResult v c = if v.msb then 0xFFFF else 0 := by
  rw [sarResult_eq_sshiftRight]
  split
  case isTrue hneg =>
    rw [BitVec.sshiftRight_eq_of_msb_true hneg, BitVec.ushiftRight_eq_zero hc]
    rfl
  case isFalse hnonneg =>
    rw [BitVec.sshiftRight_eq_of_msb_false (Bool.eq_false_iff.2 hnonneg), BitVec.ushiftRight_eq_zero hc]
    rfl

/-! ## The shifts (R255 to R260) -/

/-- A shift writes its result, for every value `P` and every limit `Q` that the result has. -/
theorem resultInto_shift {P Q : Word → Prop} {r : Word} (x : Reg) (s : State) (hP : P r) (hQ : Q r) :
    Answers (fun t => ∃ r : Word, P r ∧ Q r ∧ RegOnly x r s t ∧ ZnFlags r.toNat s.flags t.flags) (resultInto x r s) := by
  obtain ⟨t, ht, hwrites⟩ := resultInto_writes x r s
  exact ⟨t, ht, r, hP, hQ, hwrites⟩

/-- Settles O51: both forms shift RX left, by the nibble and by the unmasked RY. -/
theorem shiftLeft : Obligations.ShiftLeft := by
  refine ⟨decodesAs_of_entry rfl, decodesAs_of_entry rfl, fun x y n s => ?_⟩
  have hshl (c : Nat) := resultInto_shift (P := fun r => r.toNat = (s.reg x).toNat * 2 ^ c % 65536)
    (Q := fun r => 16 ≤ c → r = 0) x s (shlResult_toNat (s.reg x) c) (shlResult_of_sixteen_le (s.reg x))
  rw [List.forall_mem_cons, List.forall_mem_singleton]
  exact ⟨hshl n.toNat, hshl (s.reg y).toNat⟩

/-- Settles O52: both forms shift RX right logically, by the nibble and by the unmasked RY. -/
theorem shiftRightLogical : Obligations.ShiftRightLogical := by
  refine ⟨decodesAs_of_entry rfl, decodesAs_of_entry rfl, fun x y n s => ?_⟩
  have hshr (c : Nat) := resultInto_shift (P := fun r => r.toNat = (s.reg x).toNat / 2 ^ c)
    (Q := fun r => 16 ≤ c → r = 0) x s (shrResult_toNat (s.reg x) c) (shrResult_of_sixteen_le (s.reg x))
  rw [List.forall_mem_cons, List.forall_mem_singleton]
  exact ⟨hshr n.toNat, hshr (s.reg y).toNat⟩

/-- Settles O53: both forms shift RX right with its sign, by the nibble and by the unmasked RY. -/
theorem shiftRightArithmetic : Obligations.ShiftRightArithmetic := by
  refine ⟨decodesAs_of_entry rfl, decodesAs_of_entry rfl, fun x y n s => ?_⟩
  have hsar (c : Nat) := resultInto_shift (P := fun r => r.toInt = (s.reg x).toInt / 2 ^ c)
    (Q := fun r => 16 ≤ c → r = if (s.reg x).msb then 0xFFFF else 0) x s (sarResult_toInt (s.reg x) c)
    (sarResult_of_sixteen_le (s.reg x))
  rw [List.forall_mem_cons, List.forall_mem_singleton]
  exact ⟨hsar n.toNat, hsar (s.reg y).toNat⟩

end Sys2Proof.Machine
end

section
/-!
PROOFS. The stack (spec/46_stack.md R270 to R276): what a push and a pop answer, once for each shared form; where the registers
of a list are pushed and from where they are popped, by their place in the list; that each pop takes back what its push stored.
-/
namespace Sys2Proof.Machine

/-! ## PUSH and PUSHF (R271, R275) -/

theorem sequential_push_stores (v : Word) (s : State) :
    Answers (fun t => WordStored s.sp v s t ∧ t.sp = s.sp + 2 ∧ RegsKept s t ∧ t.flags = s.flags ∧ PortKept s t ∧
      Advanced (s.pc + 4) s t) (sequential (s.push v)) :=
  ⟨_, sequential_eq _, push_wordStored s v, rfl, fun _ => rfl, rfl, ⟨rfl, rfl, rfl⟩, rfl, rfl, rfl⟩

/-- R28: the packed word as a sum over the four flags. -/
theorem packFlags_toNat (f : Flags) :
    (packFlags f).toNat = 2 * f.c.toNat + 4 * f.z.toNat + 64 * f.o.toNat + 128 * f.n.toNat := by
  obtain ⟨c, z, o, n⟩ := f
  revert c z o n
  decide

/-- Settles O54: both push a word and commit with delta 4, PUSH that of RX and PUSHF the packed flags. -/
theorem pushStoresAtSp : Obligations.PushStoresAtSp := by
  refine ⟨decodesAs_of_entry rfl, decodesAs_of_entry rfl, fun x s => ⟨sequential_push_stores (s.reg x) s, ?pushf⟩⟩
  obtain ⟨t, ht, hpushed⟩ := sequential_push_stores (packFlags s.flags) s
  exact ⟨t, ht, packFlags s.flags, packFlags_toNat s.flags, hpushed⟩

/-! ## POP and POPF (R272, R276) -/

/-- Settles O55: both take the word to pop, POP as RX and POPF as the packed flags, and `sp` is 2 less. -/
theorem popReadsBelowSp : Obligations.PopReadsBelowSp := by
  refine ⟨decodesAs_of_entry rfl, decodesAs_of_entry rfl, fun x s => ⟨s.popValue, popValue_toNat s, ?pop, ?popf⟩⟩
  case pop =>
    exact ⟨_, exec_pop x s, setReg_regWritten s.popped x s.popValue, rfl, rfl, fun _ => rfl, ⟨rfl, rfl, rfl⟩, rfl, rfl, rfl⟩
  case popf =>
    exact ⟨_, exec_popf s, rfl, rfl, rfl, rfl, fun _ => rfl, rfl, fun _ => rfl, ⟨rfl, rfl, rfl⟩, rfl, rfl, rfl⟩

theorem unpackFlags_packFlags (f : Flags) : unpackFlags (packFlags f) = f := by
  obtain ⟨c, z, o, n⟩ := f
  revert c z o n
  decide

/-- Settles O59: the word to pop is the packed flags, and unpacking gives them back. -/
theorem popfUndoesPushf : Obligations.PopfUndoesPushf := fun s =>
  ⟨_, _, exec_pushf s, exec_popf _, (congrArg unpackFlags (popValue_push s _)).trans (unpackFlags_packFlags s.flags),
    push_sp_sub_two s (packFlags s.flags), fun _ => rfl⟩

/-! ## PUSHALL (R273) -/

theorem Memory.read16_congr {m m' : Memory} {a : Word} (h : m.read8 a = m'.read8 a)
    (h' : m.read8 (a + 1) = m'.read8 (a + 1)) : m.read16 a = m'.read16 a :=
  congrArg₂ wordOf h h'

/-- The word pushed last stays where it is while at most 15 registers are pushed above it. -/
theorem pushRegs_push_read16 (rs : List Reg) (v : Word) (s : State) (hl : rs.length ≤ 15) :
    (pushRegs rs (s.push v)).mem.read16 s.sp = v := by
  calc
    _ = (s.push v).mem.read16 s.sp := by
      apply Memory.read16_congr
      all_goals exact pushRegs_read8_outside rs _ (by omega) _ (by rw [State.push_sp]; bv_omega)
    _ = v := Memory.read16_write16 _ _ _

/-- Of at most 16 registers pushed, the one at place `k` of the list stands `2 * k` above the old `sp`. -/
theorem pushRegs_read16 (rs : List Reg) (s : State) (hl : rs.length ≤ 16) (k : Nat) (hk : k < rs.length) :
    (pushRegs rs s).mem.read16 (s.sp + BitVec.ofNat 16 (2 * k)) = s.reg rs[k] := by
  induction rs generalizing s k with
  | nil => exact absurd hk (Nat.not_lt_zero k)
  | cons i rs ih =>
    rw [List.length_cons] at hl hk
    rw [pushRegs_cons]
    cases k with
    | zero =>
      rw [Nat.mul_zero, BitVec.add_zero]
      exact pushRegs_push_read16 rs (s.reg i) s (by omega)
    | succ k =>
      have haddr : s.sp + BitVec.ofNat 16 (2 * (k + 1)) = (s.push (s.reg i)).sp + BitVec.ofNat 16 (2 * k) := by
        rw [State.push_sp]
        bv_omega
      rw [haddr]
      exact ih (s.push (s.reg i)) (by omega) k (by omega)

theorem allRegs_getElem : ∀ i : Reg, allRegs[i.toNat]'i.isLt = i := by decide

theorem ofNat_two_mul_toNat (i : Reg) : BitVec.ofNat 16 (2 * i.toNat) = 2 * i.setWidth 16 := by bv_omega

/-- Settles O56: register `i` has the place `i` among the registers pushed. -/
theorem pushallStoresAllRegisters : Obligations.PushallStoresAllRegisters := by
  refine ⟨decodesAs_of_entry rfl, fun s => ?_⟩
  obtain ⟨-, hpc, hflags, hcount, hfault, hport⟩ := pushRegs_kept allRegs s
  refine ⟨_, exec_pushall s, fun i => ?words, pushRegs_read8_outside allRegs s le_rfl, pushRegs_sp allRegs s,
    pushRegs_reg allRegs s, hflags, hport, congrArg (· + 4) hpc, congrArg (· + 1) hcount, hfault⟩
  rw [← ofNat_two_mul_toNat]
  exact (pushRegs_read16 allRegs s le_rfl i.toNat i.isLt).trans (congrArg s.reg (allRegs_getElem i))

/-! ## POPALL (R274) -/

/-- Popping in the reverse order of a list pops its first register last. -/
theorem popRegs_reverse_cons (i : Reg) (rs : List Reg) (s : State) :
    popRegs (i :: rs).reverse s = (popRegs rs.reverse s).popped.setReg i (popRegs rs.reverse s).popValue := by
  rw [List.reverse_cons, popRegs, List.foldl_append]
  rfl

/-- Of distinct registers popped in reverse order, the one at place `k` of the list holds the word `2 * k` above the new
`sp`. -/
theorem popRegs_reverse_reg (rs : List Reg) (s : State) (hrs : rs.Nodup) (k : Nat) (hk : k < rs.length) :
    (popRegs rs.reverse s).reg rs[k] = s.mem.read16 ((popRegs rs.reverse s).sp + BitVec.ofNat 16 (2 * k)) := by
  induction rs generalizing k with
  | nil => exact absurd hk (Nat.not_lt_zero k)
  | cons i rs ih =>
    obtain ⟨hi, hnodup⟩ := List.nodup_cons.1 hrs
    obtain ⟨hmem, -⟩ := popRegs_kept rs.reverse s
    rw [popRegs_reverse_cons, State.setReg_reg, State.setReg_sp, State.popped_sp]
    cases k with
    | zero => rw [List.getElem_cons_zero, if_pos rfl, State.popValue, hmem, Nat.mul_zero, BitVec.add_zero]
    | succ k =>
      rw [List.length_cons] at hk
      have hk' : k < rs.length := by omega
      have hne : rs[k] ≠ i := fun h => hi (h ▸ List.getElem_mem hk')
      have haddr : (popRegs rs.reverse s).sp - 2 + BitVec.ofNat 16 (2 * (k + 1)) =
          (popRegs rs.reverse s).sp + BitVec.ofNat 16 (2 * k) := by bv_omega
      rw [List.getElem_cons_succ, if_neg hne, State.popped_reg, ih hnodup k hk', haddr]

/-- Settles O57: the registers are popped in the reverse of the order in which PUSHALL pushes them. -/
theorem popallLoadsAllRegisters : Obligations.PopallLoadsAllRegisters := by
  refine ⟨decodesAs_of_entry rfl, fun s => ?_⟩
  obtain ⟨hmem, hpc, hflags, hcount, hfault, hport⟩ := popRegs_kept allRegs.reverse s
  have hsp : (popRegs allRegs.reverse s).sp = s.sp - 32 := popRegs_sp allRegs.reverse s
  refine ⟨_, exec_popall s, fun i => ?words, hsp, hflags, fun a => congrArg (·.read8 a) hmem, hport,
    congrArg (· + 4) hpc, congrArg (· + 1) hcount, hfault⟩
  have hword := popRegs_reverse_reg allRegs s (by decide) i.toNat i.isLt
  rwa [allRegs_getElem, ofNat_two_mul_toNat, hsp] at hword

/-- Settles O58: POPALL reads each register from the address where PUSHALL has stored it. -/
theorem popallUndoesPushall : Obligations.PopallUndoesPushall := by
  intro s t u ht husp hmem
  obtain ⟨-, hpushall⟩ := pushallStoresAllRegisters
  obtain ⟨hstored, -, htsp, -⟩ := Answers.of_eq_next (hpushall s) ht
  obtain ⟨-, hpopall⟩ := popallLoadsAllRegisters
  obtain ⟨v, hv, hloaded, hvsp, -⟩ := hpopall u
  have hsp : u.sp - 32 = s.sp := by rw [husp, htsp, BitVec.add_sub_cancel]
  refine ⟨v, hv, fun i => ?_, hvsp.trans hsp⟩
  calc
    v.reg i = u.mem.read16 (s.sp + 2 * i.setWidth 16) := by rw [hloaded, hsp]
    _ = t.mem.read16 (s.sp + 2 * i.setWidth 16) := Memory.read16_congr (hmem _) (hmem _)
    _ = s.reg i := hstored i

end Sys2Proof.Machine
end

section
/-!
PROOFS. Faults (spec/60_exceptions.md R301 to R306): what `step` answers in a faulted state and for a word that is no
instruction, and that a division by 0 is all that makes an execution touch the fault status.
-/
namespace Sys2Proof.Machine

/-! ## The faulted state (R305) -/

theorem step_of_fault {s : State} {r : FaultRecord} (hf : s.fault = some r) : step s = .next s :=
  if_pos (Option.isSome_of_eq_some hf)

theorem runResult_of_fault {s : State} {r : FaultRecord} (hf : s.fault = some r) :
    runResult (.next s) = .fault (.engineStopped r) := by
  simp [runResult, hf]

/-- Settles O13: `step` asks for the fault status first, and the reset state has none. -/
theorem faultedStepChangesNothing : Obligations.FaultedStepChangesNothing := by
  intro s r hf
  refine ⟨step_of_fault hf, hf, runResult_of_fault hf, fun ur um rom hlen => ?_⟩
  obtain ⟨t, ht, -, -, -, -, -, -, -, hrun⟩ := driverResetState ur um rom s hlen
  exact ⟨t, ht, hrun⟩

/-! ## UnmappedOpcode (R302) -/

theorem step_of_rejected {s : State} {e : DecodeError} (hf : s.fault = none) (he : decode s.fetchBytes = .rejected e) :
    step s = .next (s.raise .unmappedOpcode) := by
  simp [step, hf, he]

/-- Settles O12: the fetched opcode is the byte at `pc`, and the decoder rejects each one that R83 lists. -/
theorem unmappedOpcodeFaults : Obligations.UnmappedOpcodeFaults := by
  intro s hf hop
  obtain ⟨hrejects, -⟩ := unmappedOpcodesRejected
  exact step_of_rejected hf (hrejects s.fetchBytes hop)

/-! ## DivideByZero (R303, R304) -/

/-- R303: a divisor of 0 is found before anything is written. -/
theorem exec_of_divisor_zero {i : Instr} {s : State} (h : divisorOf i s = some 0) :
    exec i s = .next (s.raise .divideByZero) := by
  cases i
  case divi | div2 | div3 | modi | mod2 | mod3 | remi | rem2 | rem3 => exact if_pos (Option.some.inj h)
  all_goals exact nomatch h

theorem step_of_divisor_zero {s : State} {i : Instr} (hf : s.fault = none) (hi : decode s.fetchBytes = .instr i)
    (h : divisorOf i s = some 0) : step s = .next (s.raise .divideByZero) :=
  (step_of_decode hf hi).trans (exec_of_divisor_zero h)

theorem exec_keeps_fault {i : Instr} {s t : State} (hd : divisorOf i s ≠ some 0) (h : exec i s = .next t) :
    t.fault = s.fault := by
  obtain ⟨hkept, -⟩ | ⟨hzero, -⟩ := (exec_commits_or_raises i s).of_eq_next h
  · exact hkept
  · exact absurd hzero hd

/-- Settles O18: an execution whose divisor is not 0, or that has none, keeps the fault status. -/
theorem onlyDivisionByZeroFaults : Obligations.OnlyDivisionByZeroFaults := by
  intro i s t h hchanged
  by_contra hd
  exact hchanged (exec_keeps_fault hd h)

/-- Settles O17: each of the nine forms has HHLL or RY as its divisor, and an instruction without a divisor has none that
is 0. -/
theorem divideByZeroFaults : Obligations.DivideByZeroFaults := by
  refine ⟨fun x y z hhll s hf => ⟨fun hhll_zero i hmem hi => ?immediate, fun hy_zero i hmem hi => ?register⟩,
    fun i s t hd h => ?others⟩
  case immediate =>
    have hdivisor : ∀ j ∈ [Instr.divi x hhll, .modi x hhll, .remi x hhll], divisorOf j s = some hhll := by
      simp [divisorOf]
    exact step_of_divisor_zero hf hi ((hdivisor i hmem).trans (congrArg some hhll_zero))
  case register =>
    have hdivisor : ∀ j ∈ [Instr.div2 x y, .div3 x y z, .mod2 x y, .mod3 x y z, .rem2 x y, .rem3 x y z],
        divisorOf j s = some (s.reg y) := by
      simp [divisorOf]
    exact step_of_divisor_zero hf hi ((hdivisor i hmem).trans (congrArg some hy_zero))
  case others => exact exec_keeps_fault (by simp [hd]) h

/-! ## Every step of a running engine (R301, R306) -/

/-- Settles O14: the word at `pc` is rejected, or its execution raises, or it commits with the fault status kept. -/
theorem stepCommitsOrFaultsPrecisely : Obligations.StepCommitsOrFaultsPrecisely := by
  intro s hf
  cases hd : decode s.fetchBytes with
  | rejected e => exact .inr ⟨.unmappedOpcode, step_of_rejected hf hd⟩
  | instr i =>
    obtain ⟨t, ht, ⟨hkept, hcount⟩ | ⟨hzero, -⟩⟩ := exec_commits_or_raises i s
    · exact .inl ⟨t, (step_of_decode hf hd).trans ht, hkept.trans hf, hcount⟩
    · exact .inr ⟨.divideByZero, step_of_divisor_zero hf hd hzero⟩

end Sys2Proof.Machine
end

section
/-!
PROOFS. Canonical memory as the model's own form (spec/20_memory.md R50; log entry 2), and the states that reset leaves
(spec/70_reset_and_hazards.md R330; log entries 1, 2, 5 and 11).
-/
namespace Sys2Proof.Machine

/-! ## A canonical memory lists the cells that do not read as unlisted ones (R50) -/

theorem Memory.nil_wf : Memory.wf [] := ⟨.nil, nofun⟩

theorem Memory.lookup_of_mem {m : Memory} (h : m.Pairwise fun c d => c.1 < d.1) {c : Host.Cell} (hc : c ∈ m) :
    Memory.lookup c.1 m = c.2 := by
  induction m with
  | nil => cases hc
  | cons d rest ih =>
    obtain ⟨hd, hrest⟩ := List.pairwise_cons.1 h
    rw [Memory.lookup]
    obtain rfl | hc := List.mem_cons.1 hc
    · exact if_pos rfl
    · rw [if_neg (hd c hc).ne, ih hrest hc]

theorem Memory.mem_of_lookup {m : Memory} {a : Nat} (h : Memory.lookup a m ≠ Memory.unlisted) :
    (a, Memory.lookup a m) ∈ m := by
  induction m with
  | nil => exact absurd rfl h
  | cons d rest ih =>
    rw [Memory.lookup] at h ⊢
    split
    · next ha => exact ha ▸ List.mem_cons_self
    · next ha => exact List.mem_cons_of_mem d (ih (by rwa [if_neg ha] at h))

/-- What the canonical form says of the list, in terms of the readings alone. -/
theorem Memory.mem_iff_of_wf {m : Memory} (h : m.wf) (c : Host.Cell) :
    c ∈ m ↔ ∃ a : Word, m.read8 a ≠ Memory.unlisted ∧ (a.toNat, m.read8 a) = c := by
  obtain ⟨hsorted, hcells⟩ := h
  constructor
  · intro hc
    obtain ⟨hinside, hlisted⟩ := hcells c hc
    have haddr : (BitVec.ofNat 16 c.1).toNat = c.1 := Nat.mod_eq_of_lt hinside
    have hread : m.read8 (BitVec.ofNat 16 c.1) = c.2 := by
      rw [Memory.read8, haddr, Memory.lookup_of_mem hsorted hc]
    exact ⟨BitVec.ofNat 16 c.1, hread ▸ hlisted, Prod.ext haddr hread⟩
  · rintro ⟨a, ha, rfl⟩
    exact Memory.mem_of_lookup ha

/-- Settles O8: memories that read alike list the same cells, and a strictly rising list is determined by its members. -/
theorem canonicalMemoriesEqual : Obligations.CanonicalMemoriesEqual := by
  intro m m' h h' hread
  have hmem : ∀ c, c ∈ m ↔ c ∈ m' := by
    simp only [Memory.mem_iff_of_wf h, Memory.mem_iff_of_wf h', hread, implies_true]
  obtain ⟨hsorted, -⟩ := h
  obtain ⟨hsorted', -⟩ := h'
  exact List.Pairwise.eq_of_mem_iff (r := InvImage (· < ·) Prod.fst) hsorted hsorted' hmem

/-! ## The reset states (R330) -/

/-- The listed cells of the first `n` addresses are a canonical memory when those addresses exist. -/
theorem filter_listed_wf (f : Nat → Byte) {n : Nat} (hn : n ≤ 65536) :
    Memory.wf (((List.range n).map fun k => (k, f k)).filter fun c => decide (c.2 ≠ Memory.unlisted)) := by
  have hsorted : ((List.range n).map fun k => (k, f k)).Pairwise fun c d => c.1 < d.1 :=
    List.pairwise_map.2 List.pairwise_lt_range
  refine ⟨hsorted.filter _, fun c hc => ?_⟩
  obtain ⟨hcell, hlisted⟩ := List.mem_filter.1 hc
  obtain ⟨k, hk, rfl⟩ := List.mem_map.1 hcell
  exact ⟨(List.mem_range.1 hk).trans_le hn, of_decide_eq_true hlisted⟩

theorem resetMemory_wf (um : Nat → Byte) (rom : List Byte) : (resetMemory um rom).wf :=
  filter_listed_wf (resetCell um rom) le_rfl

theorem driverReset_of_not_fits (ur : Reg → Word) (um : Nat → Byte) {rom : List Byte} (s : State)
    (h : 65536 < rom.length) : Driver.reset ur um rom s = .refused (.romImageTooLong rom.length) :=
  if_neg (Nat.not_le.2 h)

/-- When the driver's reset answers a state: its memory is the image's, no fault is latched, the history is the old one. -/
theorem driverReset_next {ur : Reg → Word} {um : Nat → Byte} {rom : List Byte} {s t : State}
    (h : Driver.reset ur um rom s = .next t) :
    t.mem = resetMemory um rom ∧ t.fault = none ∧ t.history = s.history := by
  unfold Driver.reset at h
  split at h
  · cases h
    simp
  · cases h

/-- Settles O16: a reset state runs, and its memory lists the cells of the address space in order. -/
theorem resetMeetsInvariant : Obligations.ResetMeetsInvariant := by
  refine ⟨inv_of_running Memory.nil_wf rfl, fun ur um rom s t h => ?_⟩
  obtain ⟨hmem, hrun, -⟩ := driverReset_next h
  exact inv_of_running (hmem ▸ resetMemory_wf um rom) hrun

/-- With no image and every open cell reading as an unlisted one, reset lists no cell. -/
theorem resetMemory_unlisted : resetMemory (fun _ => Memory.unlisted) [] = [] :=
  canonicalMemoriesEqual _ _ (resetMemory_wf _ _) Memory.nil_wf fun a =>
    (resetMemory_read8 _ _ a).trans (resetCell_above_image (Nat.zero_le _))

/-- Settles O20: `State.reset` lists no cell and holds 0 in each register, as the driver's reset does at the model's choice. -/
theorem resetIsDriverReset : Obligations.ResetIsDriverReset := by
  refine ⟨?state, fun ur um _ s => driverReset_of_not_fits ur um s, fun ur um rom s t h => ?history⟩
  case state =>
    have hregs : (Vector.ofFn fun _ : Fin 16 => (0 : Word)) = Vector.replicate 16 0#16 := rfl
    rw [Driver.reset, hregs]
    refine (if_pos (Nat.zero_le _)).trans ?_
    exact congrArg (fun m => Host.Outcome.next { State.reset with mem := m }) resetMemory_unlisted
  case history =>
    obtain ⟨-, -, hhistory⟩ := driverReset_next h
    exact hhistory

end Sys2Proof.Machine
end
